-- ==== Sys2Proof/Word.lean ====
section
/-! DEFINITION. The plain data of the engine: words, bytes, nibbles, line levels (R8, R9). -/

namespace Sys2Proof

/-- A request word (R81). -/
abbrev Word := BitVec 32

/-- A byte, 0x00..0xFF (R8). -/
abbrev Byte := BitVec 8

/-- A nibble, 0x0..0xF (R8). -/
abbrev Nibble := BitVec 4

/-- The INTERVAL field of DELAY, a number of µs (R92). -/
abbrev Interval := BitVec 28

/-- The two-valued type Level = 0, 1 (R9): `false` is 0, `true` is 1. -/
abbrev Level := Bool

/-- The six lines (R28). -/
inductive Line where
  | en | rs | d4 | d5 | d6 | d7
deriving DecidableEq, Repr

/-- The type Shadow = 0, 1, X (R9): what the engine knows of a line; `x` is an unknown level. -/
inductive Shadow where
  | level (v : Level)
  | x
deriving DecidableEq, Repr

end Sys2Proof
end

