-- ==== Sys2Proof/Syntax.lean ====
section
/-! DEFINITION. The requests: one constructor of `Instr` for each row of spec/opcode_table.json (R82). -/

namespace Sys2Proof

/-- The bus width mode, operand `BW` of INIT (R84, R40). -/
inductive BusWidth where
  | fourBit
  | eightBit
deriving DecidableEq, Repr

/-- The direction of the entry mode, field `DIR` (R24). -/
inductive Direction where
  | leftToRight
  | rightToLeft
deriving DecidableEq, Repr

/-- The entry-mode configuration (R24): the contents of the register `ENTRY_MODE`. -/
structure EntryMode where
  dir : Direction
  et  : Bool
deriving DecidableEq, Repr

/-- What the host puts on the request port: a word and, with it, payload bytes (R80, R87). -/
structure Request where
  word    : Word
  payload : List Byte
deriving DecidableEq, Repr

/-- The ten requests (R82), with their operands as decoded from the word (R83).
`print` carries its payload bytes P[0] .. P[LEN-1]; its `LEN` is the length of that list (R87, R165). -/
inductive Instr where
  | init (bw : BusWidth)
  | command (b : Byte)
  | writeChar (c : Byte)
  | print (payload : List Byte)
  | setEntryMode (dir : Direction) (et : Bool)
  | setCursor (col row : Byte)
  | setCgramAddr (addr : Byte)
  | clear
  | home
  | delay (interval : Interval)
deriving DecidableEq, Repr

end Sys2Proof
end

