-- ==== Sys2Proof/Config.lean ====
section
/-! DEFINITION. The parameters of the engine with the values of R6, and the values the spec leaves OPEN
(the ports' answers and the platform's encoding of a pin error), which have no body here. -/

namespace Sys2Proof

/-- The pin port's opaque error value, the OPEN type `PinErr` (R6, D34): any label (log entry 2). -/
structure PinErr where
  label : Nat
deriving DecidableEq, Repr, Inhabited

/-- The pin port's answer to a pin write (R262). -/
inductive PinAnswer where
  | ok
  | err (e : PinErr)
deriving DecidableEq, Repr, Inhabited

/-- The timer's answer to a wait (R263). -/
inductive TimerAnswer where
  | ok
  | err
deriving DecidableEq, Repr, Inhabited

/-- The parameters of R6 that an expansion or a check uses. -/
structure Params where
  /-- `P_COLS` -/
  cols : Nat
  /-- `P_ROWS` -/
  rows : Nat
  /-- `P_ROW_BASE[0]` -/
  rowBase0 : Byte
  /-- `P_ROW_BASE[1]` -/
  rowBase1 : Byte
  /-- `P_CGRAM_LIMIT` -/
  cgramLimit : Nat
  /-- `P_T_POWERUP` -/
  tPowerup : Nat
  /-- `P_T_RESYNC` -/
  tResync : Nat
  /-- `P_T_SHORT` -/
  tShort : Nat
  /-- `P_T_LONG` -/
  tLong : Nat
  /-- `P_T_CHAR` -/
  tChar : Nat
  /-- `P_T_TAIL` -/
  tTail : Nat
  /-- `P_T_PULSE`; 0 means that no wait micro-op is emitted (D12). -/
  tPulse : Nat
  /-- `P_RESYNC` -/
  resync : List Nibble
  /-- `P_INIT_DISPLAY` -/
  initDisplay : Byte
  /-- `P_ENTRY_RESET` -/
  entryReset : EntryMode
deriving DecidableEq, Repr

/-- The engine's parameters, at the values R6 shows (log entry 6). -/
def Config.engine : Params where
  cols := 16
  rows := 2
  rowBase0 := 0x00#8
  rowBase1 := 0x40#8
  cgramLimit := 32
  tPowerup := 50000
  tResync := 150
  tShort := 39
  tLong := 1530
  tChar := 320
  tTail := 1530
  tPulse := 0
  resync := [0x3#4, 0x3#4, 0x3#4, 0x2#4]
  initDisplay := 0x0C#8
  entryReset := { dir := .rightToLeft, et := false }

/-- `S_POWERUP`: the controller's requirement from INIT to the first transfer, µs (R6). -/
def Config.sPowerup : Nat := 50000
/-- `S_RESYNC` (R6). -/
def Config.sResync : Nat := 150
/-- `S_SHORT` (R6). -/
def Config.sShort : Nat := 39
/-- `S_LONG` (R6). -/
def Config.sLong : Nat := 1530
/-- `S_DATA` (R6). -/
def Config.sData : Nat := 320

/-- `W_ERRINFO`: the width of `STATUS.ERR_INFO` (R6). -/
abbrev Config.wErrInfo : Nat := 16
/-- `W_REQ`: the width of a request word (R6). -/
abbrev Config.wReq : Nat := 32
/-- `W_DELAY`: the width of DELAY's interval field; every wait is below `2 ^ W_DELAY` µs (R6, R110). -/
abbrev Config.wDelay : Nat := 28
/-- `P_PRINT_MAXLEN`: the largest PRINT payload length (R6). -/
abbrev Config.printMaxLen : Nat := 65535

/-- The parameter sets R7 allows: a `P_T_*` may be lengthened, never shortened below its `S_*`;
`P_T_TAIL` exceeds `P_T_CHAR` and covers `S_DATA`; every wait fits the timer port (R110). The re-sync
pattern, the geometry and the bytes are fixed (R6, D14). -/
structure Params.Legal (P : Params) : Prop where
  powerup : Config.sPowerup ≤ P.tPowerup ∧ P.tPowerup < 2 ^ Config.wDelay
  resync : Config.sResync ≤ P.tResync ∧ P.tResync < 2 ^ Config.wDelay
  short : Config.sShort ≤ P.tShort ∧ P.tShort < 2 ^ Config.wDelay
  long : Config.sLong ≤ P.tLong ∧ P.tLong < 2 ^ Config.wDelay
  char : Config.sData ≤ P.tChar ∧ P.tChar < 2 ^ Config.wDelay
  tail : P.tChar < P.tTail ∧ Config.sData ≤ P.tTail ∧ P.tTail < 2 ^ Config.wDelay
  pulse : P.tPulse < 2 ^ Config.wDelay
  cols : P.cols = 16
  rows : P.rows = 2
  rowBase : P.rowBase0 = 0x00#8 ∧ P.rowBase1 = 0x40#8
  cgramLimit : P.cgramLimit = 32
  pattern : P.resync = [0x3#4, 0x3#4, 0x3#4, 0x2#4]
  initDisplay : P.initDisplay = 0x0C#8

/-- The pin port's answers past the end of its script: FREE, one for each draw (R117, I16, log entry 1). -/
opaque Config.freePinAnswer : Nat → PinAnswer

/-- The timer's answers past the end of its script: FREE, one for each draw (R119, I16, log entry 1). -/
opaque Config.freeTimerAnswer : Nat → TimerAnswer

/-- `enc : PinErr -> 16-bit value`, the platform's OPEN encoding of a pin error (R29, I10, log entry 2). -/
opaque Config.encPinErr : PinErr → BitVec Config.wErrInfo

end Sys2Proof
end

