-- ==== Sys2Proof/WellFormed.lean ====
section
/-! DEFINITION. Which requests the word format can carry. -/

namespace Sys2Proof

/-- A request is well formed when its operands fit the word's fields. Every field but PRINT's `LEN` has the
width of its operand type; a PRINT payload has at most `P_PRINT_MAXLEN` bytes (R6, R87). -/
def Instr.wellFormed : Instr → Bool
  | .init _ => true
  | .command _ => true
  | .writeChar _ => true
  | .print payload => decide (payload.length ≤ Config.printMaxLen)
  | .setEntryMode _ _ => true
  | .setCursor _ _ => true
  | .setCgramAddr _ => true
  | .clear => true
  | .home => true
  | .delay _ => true

end Sys2Proof
end

