-- ==== Sys2Proof/Decode.lean ====
section
/-! DEFINITION. The decoder of request words (R83) and, after it, the encoder (R84..R92). -/

namespace Sys2Proof

/-- Why a request is not decoded. The first two are the `Illegal` of R83. -/
inductive DecodeError where
  /-- `OPC` is 0x0 or 0xB..0xF (R82, R94). -/
  | reservedOpcode
  /-- An operand bit that the request does not define is 1 (R81, R94). -/
  | reservedBits
  /-- The word is a PRINT and fewer than `LEN` bytes are with it: the request is not complete on the port
  (R87, R255, I9). -/
  | payloadIncomplete
deriving DecidableEq, Repr

/-- `OPC`, bits [31:28] of a request word (R81). -/
def opc (w : Word) : BitVec 4 := w.extractLsb' 28 4

/-- Field `len` bits wide whose least significant bit is bit `lo` of the word (R8, R93). -/
def field (w : Word) (lo len : Nat) : BitVec len := w.extractLsb' lo len

/-- Bits [27:lo] of the word are 0: the reserved bits of a request whose operands end below bit `lo` (R81). -/
def reservedZero (w : Word) (lo : Nat) : Bool := w.extractLsb' lo (28 - lo) == 0

/-- `BW` (R84). -/
def busWidthOf (bit : BitVec 1) : BusWidth := if bit = 1#1 then .eightBit else .fourBit
/-- The bit of a `BW` (R84). -/
def busWidthBit : BusWidth → BitVec 1
  | .fourBit => 0#1
  | .eightBit => 1#1

/-- `DIR` (R88). -/
def directionOf (bit : BitVec 1) : Direction := if bit = 1#1 then .rightToLeft else .leftToRight
/-- The bit of a `DIR` (R24, R88). -/
def directionBit : Direction → BitVec 1
  | .leftToRight => 0#1
  | .rightToLeft => 1#1

/-- The `ET` bit (R24, R88). -/
def etBit (et : Bool) : BitVec 1 := if et then 1#1 else 0#1

/-- The list has at least `n` elements. -/
def hasAtLeast {α : Type} : List α → Nat → Bool
  | _, 0 => true
  | [], _ + 1 => false
  | _ :: xs, n + 1 => hasAtLeast xs n

/-- `if the reserved bits are 0 then r else Illegal` (R83). -/
def unlessReserved (w : Word) (lo : Nat) (r : Except DecodeError Instr) : Except DecodeError Instr :=
  if reservedZero w lo then r else .error .reservedBits

/-- PRINT's payload: exactly `LEN` bytes travel with the word; bytes beyond them are dropped (R87, log entry 7). -/
def decodePrint (len : Nat) (payload : List Byte) : Except DecodeError Instr :=
  if hasAtLeast payload len then .ok (.print (payload.take len)) else .error .payloadIncomplete

/-- The decoder (R83), total on every word and payload. A word that is no PRINT takes no payload bytes (R244). -/
def decode (r : Request) : Except DecodeError Instr :=
  let w := r.word
  if opc w = 0x1#4 then unlessReserved w 1 (.ok (.init (busWidthOf (field w 0 1))))
  else if opc w = 0x2#4 then unlessReserved w 8 (.ok (.command (field w 0 8)))
  else if opc w = 0x3#4 then unlessReserved w 8 (.ok (.writeChar (field w 0 8)))
  else if opc w = 0x4#4 then unlessReserved w 16 (decodePrint (field w 0 16).toNat r.payload)
  else if opc w = 0x5#4 then
    unlessReserved w 2 (.ok (.setEntryMode (directionOf (field w 1 1)) (field w 0 1 == 1#1)))
  else if opc w = 0x6#4 then unlessReserved w 16 (.ok (.setCursor (field w 0 8) (field w 8 8)))
  else if opc w = 0x7#4 then unlessReserved w 8 (.ok (.setCgramAddr (field w 0 8)))
  else if opc w = 0x8#4 then unlessReserved w 0 (.ok .clear)
  else if opc w = 0x9#4 then unlessReserved w 0 (.ok .home)
  else if opc w = 0xA#4 then .ok (.delay (field w 0 28))
  else .error .reservedOpcode

/-- The word of a request (R84..R92). PRINT's `LEN` is the low 16 bits of its payload's length. -/
def encodeWord : Instr → Word
  | .init bw => 0x1#4 ++ 0#27 ++ busWidthBit bw
  | .command b => 0x2#4 ++ 0#20 ++ b
  | .writeChar c => 0x3#4 ++ 0#20 ++ c
  | .print payload => 0x4#4 ++ 0#12 ++ BitVec.ofNat 16 payload.length
  | .setEntryMode dir et => 0x5#4 ++ 0#26 ++ directionBit dir ++ etBit et
  | .setCursor col row => 0x6#4 ++ 0#12 ++ row ++ col
  | .setCgramAddr addr => 0x7#4 ++ 0#20 ++ addr
  | .clear => 0x8#4 ++ 0#28
  | .home => 0x9#4 ++ 0#28
  | .delay interval => 0xA#4 ++ interval

/-- The payload that travels with a request's word: PRINT's bytes, nothing else (R87, R95). -/
def encodePayload : Instr → List Byte
  | .init _ => []
  | .command _ => []
  | .writeChar _ => []
  | .print payload => payload
  | .setEntryMode _ _ => []
  | .setCursor _ _ => []
  | .setCgramAddr _ => []
  | .clear => []
  | .home => []
  | .delay _ => []

/-- The encoder: what the host puts on the port for a request. -/
def encode (i : Instr) : Request := { word := encodeWord i, payload := encodePayload i }

/-- The request whose word has the bits of `w` below `nbits`, zeros above them, and whose payload, where the
word is a PRINT, is `LEN` zero bytes. -/
def tableRequest (nbits w : Nat) : Request :=
  let word : Word := BitVec.ofNat 32 (w % 2 ^ nbits)
  { word := word
    payload := if opc word = 0x4#4 then List.replicate (field word 0 16).toNat 0#8 else [] }

/-- What the decoder reads from a word of spec/opcode_table.json. -/
def decodeTableWord (nbits w : Nat) : Option Instr :=
  match decode (tableRequest nbits w) with
  | .ok i => some i
  | .error _ => none

end Sys2Proof
end

