-- ==== Sys2Proof/Machine/State.lean ====
section
/-! DEFINITION. The engine's state as plain data (R21), the micro-ops and events it holds, the reasons a step
stops, and the state right after reset (R280). -/

namespace Sys2Proof.Machine

/-- `LIFE` (R22); its value 3 never occurs. -/
inductive Life where
  | uninitialized
  | ready
  | failed
deriving DecidableEq, Repr

/-- `STATUS.CODE` (R26, R240); codes 8..15 never occur. -/
inductive Code where
  | ok
  | gpioError
  | timerError
  | invalidAddr
  | invalidCursorPos
  | unsupportedBusWidth
  | notReady
  | illegalRequest
deriving DecidableEq, Repr

/-- A transfer unit, the `u` of a ghost tag (R111): a byte unit (R113) or a re-sync unit (R114). `last` marks
the last unit of the re-sync pattern, whose end sets `SYNC` (R146). -/
inductive XferUnit where
  | byte (rs : Level) (b : Byte)
  | resync (n : Nibble) (last : Bool)
deriving DecidableEq, Repr

/-- The ghost tag of a micro-op (R111): outside every unit, inside one, or the unit's `@start` or `@end`
write. The hardware ignores tags. -/
inductive Tag where
  | outside
  | inside (u : XferUnit)
  | start (u : XferUnit)
  | stop (u : XferUnit)
deriving DecidableEq, Repr

/-- A micro-op (R11, R110): one pin write, or one wait of `d` µs. -/
inductive MicroOp where
  | pin (p : Line) (v : Level) (tag : Tag)
  | wait (d : Nat) (tag : Tag)
deriving DecidableEq, Repr

/-- An event of `TRACE` (R31): a micro-op attempted, with its answer. -/
inductive Event where
  | pinEv (p : Line) (v : Level) (r : PinAnswer)
  | waitEv (d : Nat) (r : TimerAnswer)
deriving DecidableEq, Repr

/-- `PIN_LVL`, one record a line (R30). -/
structure PinLevels where
  en : Shadow
  rs : Shadow
  d4 : Shadow
  d5 : Shadow
  d6 : Shadow
  d7 : Shadow
deriving DecidableEq, Repr

/-- The value of the whole `STATUS` register, field by field (R25): what a response gives the host (R96).
`errPin` none is the number 7 (R28), `errInfo` none is 0 (R29). -/
structure StatusReg where
  code    : Code
  life    : Life
  busy    : Bool
  errPin  : Option Line
  errInfo : Option PinErr
deriving DecidableEq, Repr

/-- The machine: the engine's state (R21), and what the agents around it hold that a step reads. -/
structure State where
  /-- `LIFE` (R22); read in `STATUS` too (R25), stored here once. -/
  life : Life
  /-- `ENTRY_MODE` (R24). -/
  entryMode : EntryMode
  /-- `STATUS.CODE` (R26). -/
  code : Code
  /-- `STATUS.BUSY` (R27). -/
  busy : Bool
  /-- `STATUS.ERR_PIN` (R28). -/
  errPin : Option Line
  /-- `STATUS.ERR_INFO`, the pin error itself (R29). -/
  errInfo : Option PinErr
  /-- `CUR`, the latched request, none when empty (R33). -/
  cur : Option Request
  /-- `SEQ`, the expansion of the current request (R32). -/
  seq : List MicroOp
  /-- `SEQ_PC`, the index of the next micro-op (R32). -/
  seqPc : Nat
  /-- `PIN_LVL` (R30). -/
  pinLvl : PinLevels
  /-- `TRACE`, oldest event first (R31); ghost. -/
  trace : List Event
  /-- `SETTLE_DEBT` in µs (R34); ghost. -/
  settleDebt : Nat
  /-- `HAZARD` (R35); ghost. -/
  hazard : Bool
  /-- `SYNC` (R36); ghost. -/
  sync : Bool
  /-- MODEL'S OWN: the requests the host offers, oldest first (R80, log entry 3). -/
  offers : List Request
  /-- MODEL'S OWN: the responses given to the host, oldest first (R80, log entry 4). -/
  responses : List StatusReg
  /-- MODEL'S OWN: the level of the reset input at each coming step, low past the end (R281, log entry 5). -/
  resetLine : List Bool
  /-- MODEL'S OWN: the pin port's next answers, `none` for a port that never answers (R264, log entry 1). -/
  pinScript : List (Option PinAnswer)
  /-- MODEL'S OWN: the timer's next answers, `none` for a timer that never answers (R264, log entry 1). -/
  timerScript : List (Option TimerAnswer)
  /-- MODEL'S OWN: how many free answers were drawn past the scripts' ends (log entry 1). -/
  draws : Nat
deriving DecidableEq, Repr

/-- Why the machine stops. No instruction's meaning raises one of these: they are raised by the step around it. -/
inductive Fault where
  /-- Raised by a `PIN` micro-op when the pin port never answers: the engine is stuck (R264). SAFE: the model
  stops where the platform breaks its duty. -/
  | pinPortSilent (p : Line)
  /-- Raised by a `WAIT` micro-op when the timer never answers: the engine is stuck (R264). SAFE: as above. -/
  | timerSilent
  /-- Raised by an idle engine when the host offers a PRINT without all of its `LEN` payload bytes: stuck
  (R255, I9). SAFE for what the model says of the engine; UNSAFE if the absence of hangs is read from it (I9). -/
  | payloadIncomplete
  /-- Raised by a busy engine whose `SEQ_PC` is beyond `len(SEQ)`, which never occurs (R32). SAFE: no run
  from reset reaches it. -/
  | seqPcOutOfRange
deriving DecidableEq, Repr

/-- Why an instruction has no meaning. -/
inductive Refusal where
  /-- Raised by an arm of `exec` whose instruction is not modelled yet; no arm of this model raises it. SAFE. -/
  | notModelled (mnemonic : String)
deriving DecidableEq, Repr

/-- Every line unknown (R280). -/
def PinLevels.unknown : PinLevels where
  en := .x
  rs := .x
  d4 := .x
  d5 := .x
  d6 := .x
  d7 := .x

/-- The machine right after reset (R280), the agents around it holding nothing (log entries 1, 3, 4, 5). -/
def State.reset : State where
  life := .uninitialized
  entryMode := Config.engine.entryReset
  code := .ok
  busy := false
  errPin := none
  errInfo := none
  cur := none
  seq := []
  seqPc := 0
  pinLvl := PinLevels.unknown
  trace := []
  settleDebt := 0
  hazard := false
  sync := false
  offers := []
  responses := []
  resetLine := []
  pinScript := []
  timerScript := []
  draws := 0

end Sys2Proof.Machine
end

