-- ==== Sys2Proof/Machine/Operands.lean ====
section
/-! DEFINITION. What requests compute from their operands: nibbles, the levels of the data lines, command
bytes and controller addresses (R54, R211, R216, R218). -/

namespace Sys2Proof.Machine

/-- `b[7:4]` (R113). -/
def hiNibble (b : Byte) : Nibble := b.extractLsb' 4 4

/-- `b[3:0]` (R113). -/
def loNibble (b : Byte) : Nibble := b.extractLsb' 0 4

/-- `n[i]`, the level of line D(4+i) (R54). -/
def nibbleLevel (n : Nibble) (i : Nat) : Level := n.getLsbD i

/-- The entry-mode command byte `0x04 | (DIR << 1) | ET` (R145, R191). -/
def entryModeByte (em : EntryMode) : Byte :=
  0x04#8 ||| ((directionBit em.dir).setWidth 8 <<< 1) ||| (etBit em.et).setWidth 8

/-- `P_ROW_BASE[ROW]`, for a row that passes the check of R210 (R6). -/
def rowBase (P : Params) (row : Byte) : Byte := if row = 0#8 then P.rowBase0 else P.rowBase1

/-- The cursor position is on the grid (R210). -/
def cursorValid (P : Params) (col row : Byte) : Bool :=
  decide (col.toNat < P.cols) && decide (row.toNat < P.rows)

/-- The DDRAM address of a cursor position (R211). -/
def ddramAddr (P : Params) (col row : Byte) : Byte := rowBase P row + col

/-- The set-DDRAM-address command byte of a cursor position, `0x80 | addr` (R211). -/
def cursorByte (P : Params) (col row : Byte) : Byte := 0x80#8 ||| ddramAddr P col row

/-- The CGRAM address is in range (R215). -/
def cgramValid (P : Params) (addr : Byte) : Bool := decide (addr.toNat < P.cgramLimit)

/-- The set-CGRAM-address command byte, `0x40 | ADDR` (R216). -/
def cgramByte (addr : Byte) : Byte := 0x40#8 ||| addr

/-- The display clear command byte (R195). -/
def clearByte : Byte := 0x01#8

/-- The home command byte (R200). -/
def homeByte : Byte := 0x02#8

end Sys2Proof.Machine
end

