-- ==== Sys2Proof/Machine/Flags.lean ====
section
/-! DEFINITION. The flag-like state (R37): the `STATUS` word (R25..R29), and the ghost settle scoreboard
`SETTLE_DEBT`, `HAZARD`, `SYNC` (R290..R295). -/

namespace Sys2Proof.Machine

/-- The number of a line (R28). -/
def lineNumber : Line → BitVec 3
  | .en => 0#3
  | .rs => 1#3
  | .d4 => 2#3
  | .d5 => 3#3
  | .d6 => 4#3
  | .d7 => 5#3

/-- The number of a result code (R240). -/
def codeNumber : Code → BitVec 4
  | .ok => 0#4
  | .gpioError => 1#4
  | .timerError => 2#4
  | .invalidAddr => 3#4
  | .invalidCursorPos => 4#4
  | .unsupportedBusWidth => 5#4
  | .notReady => 6#4
  | .illegalRequest => 7#4

/-- The encoding of `LIFE` (R22). -/
def lifeNumber : Life → BitVec 2
  | .uninitialized => 0#2
  | .ready => 1#2
  | .failed => 2#2

/-- `ERR_PIN`: a line's number, 7 for none (R28). -/
def errPinNumber : Option Line → BitVec 3
  | some p => lineNumber p
  | none => 7#3

/-- `ERR_INFO`: `enc(e)`, 0 for none (R29). -/
def errInfoNumber : Option PinErr → BitVec 16
  | some e => Config.encPinErr e
  | none => 0#16

/-- The 32 bits of `STATUS` (R25): ERR_INFO [31:16], zeros [15:11], ERR_PIN [10:8], zero [7], BUSY [6],
LIFE [5:4], CODE [3:0]. -/
def statusWord (r : StatusReg) : Word :=
  errInfoNumber r.errInfo ++ 0#5 ++ errPinNumber r.errPin ++ 0#1 ++ BitVec.ofBool r.busy ++
    lifeNumber r.life ++ codeNumber r.code

/-- `STATUS` as it reads now (R25): `LIFE` is the copy of the register. -/
def State.status (s : State) : StatusReg :=
  { code := s.code, life := s.life, busy := s.busy, errPin := s.errPin, errInfo := s.errInfo }

/-- The `STATUS` word as the host reads it, at any time (R255). -/
def State.statusWord (s : State) : Word := Sys2Proof.Machine.statusWord s.status

/-- The command bytes of the long settle class (R291). -/
def longSettle (b : Byte) : Bool := b == 0x01#8 || b == 0x02#8 || b == 0x03#8

/-- The command bytes 0x30..0x3F, which take the controller out of 4-bit mode (R295 (b)). -/
def leavesFourBit (b : Byte) : Bool := hiNibble b == 0x3#4

/-- `settle(u)` (R291). -/
def settle : XferUnit → Nat
  | .resync _ _ => Config.sResync
  | .byte false b => if longSettle b then Config.sLong else Config.sShort
  | .byte true _ => Config.sData

/-- A byte unit, as against a re-sync unit (R293). -/
def isByteUnit : XferUnit → Bool
  | .byte _ _ => true
  | .resync _ _ => false

/-- The unit a tag stands in, if any (R111). -/
def Tag.unit : Tag → Option XferUnit
  | .outside => none
  | .inside u => some u
  | .start u => some u
  | .stop u => some u

/-- `SETTLE_DEBT` > 0 (R293). -/
def owes (debt : Nat) : Bool := decide (0 < debt)

/-- The unit-start check (R293): before the answer of the `@start` write is known. -/
def State.unitStart (s : State) (tag : Tag) : State :=
  match tag with
  | .start u =>
    { s with hazard := s.hazard || owes s.settleDebt || (isByteUnit u && !s.sync) }
  | .outside => s
  | .inside _ => s
  | .stop _ => s

/-- `SYNC` after a unit has completed (R146, R295 (b)). -/
def syncAfter (u : XferUnit) (sync : Bool) : Bool :=
  match u with
  | .resync _ last => last || sync
  | .byte false b => sync && !leavesFourBit b
  | .byte true _ => sync

/-- The unit-end update (R292, R146, R295 (b)): after the `@end` write has answered ok. -/
def State.unitEnd (s : State) (tag : Tag) : State :=
  match tag with
  | .stop u => { s with settleDebt := settle u, sync := syncAfter u s.sync }
  | .outside => s
  | .inside _ => s
  | .start _ => s

/-- A micro-op failed: `SYNC` is cleared if it stands in a unit (R295 (a), R117, R119). -/
def State.unitCut (s : State) (tag : Tag) : State :=
  match tag.unit with
  | some _ => { s with sync := false }
  | none => s

/-- A successful wait lowers the debt (R294). -/
def State.credit (s : State) (d : Nat) : State := { s with settleDebt := s.settleDebt - d }

end Sys2Proof.Machine
end

