-- ==== Sys2Proof/Machine/Ops.lean ====
section
/-! DEFINITION. The named operations on the state: the lines (R30), the ports (R262, R263), ending a request,
with and without an error (R120, R246), taking a request (R80, R242), and reset (R280). -/

namespace Sys2Proof.Machine

/-- `PIN_LVL[p] <- v` (R30). -/
def PinLevels.set (l : PinLevels) (p : Line) (v : Shadow) : PinLevels :=
  match p with
  | .en => { l with en := v }
  | .rs => { l with rs := v }
  | .d4 => { l with d4 := v }
  | .d5 => { l with d5 := v }
  | .d6 => { l with d6 := v }
  | .d7 => { l with d7 := v }

/-- `PIN_LVL[p]` (R30). -/
def PinLevels.get (l : PinLevels) (p : Line) : Shadow :=
  match p with
  | .en => l.en
  | .rs => l.rs
  | .d4 => l.d4
  | .d5 => l.d5
  | .d6 => l.d6
  | .d7 => l.d7

/-- `PIN_LVL[p] <- v`. -/
def State.setPin (s : State) (p : Line) (v : Shadow) : State := { s with pinLvl := s.pinLvl.set p v }

/-- `Emit(ev)` (R10). -/
def State.emit (s : State) (ev : Event) : State := { s with trace := s.trace ++ [ev] }

/-- `SEQ_PC <- SEQ_PC + 1` (R32). -/
def State.advance (s : State) : State := { s with seqPc := s.seqPc + 1 }

/-- The pin port's answer to the next write (R262): the script's next entry (`none`: it never answers, R264),
past its end a free answer (R117, log entry 1). -/
def State.pinAnswer (s : State) : Option PinAnswer :=
  match s.pinScript with
  | a :: _ => a
  | [] => some (Config.freePinAnswer s.draws)

/-- The pin port has answered: the script moves on, or one more free answer is drawn. -/
def State.pinAnswered (s : State) : State :=
  match s.pinScript with
  | _ :: rest => { s with pinScript := rest }
  | [] => { s with draws := s.draws + 1 }

/-- The timer's answer to the next wait (R263), as `State.pinAnswer`. -/
def State.timerAnswer (s : State) : Option TimerAnswer :=
  match s.timerScript with
  | a :: _ => a
  | [] => some (Config.freeTimerAnswer s.draws)

/-- The timer has answered: the script moves on, or one more free answer is drawn. -/
def State.timerAnswered (s : State) : State :=
  match s.timerScript with
  | _ :: rest => { s with timerScript := rest }
  | [] => { s with draws := s.draws + 1 }

/-- A request ends (R80): `STATUS.CODE`, `ERR_PIN` and `ERR_INFO` are written, `BUSY <- 0`, and `STATUS` is
given to the host. -/
def State.respond (s : State) (code : Code) (pin : Option Line) (info : Option PinErr) : State :=
  { s with
    code := code
    errPin := pin
    errInfo := info
    busy := false
    responses := s.responses ++
      [{ code := code, life := s.life, busy := false, errPin := pin, errInfo := info }] }

/-- What a request is ended with by `raise` (R240), with the information of a pin error. -/
inductive Cause where
  | gpioError (pin : Line) (info : PinErr)
  | timerError
  | invalidAddr
  | invalidCursorPos
  | unsupportedBusWidth
  | notReady
  | illegalRequest
deriving DecidableEq, Repr

/-- The code a cause writes (R240). -/
def Cause.code : Cause → Code
  | .gpioError _ _ => .gpioError
  | .timerError => .timerError
  | .invalidAddr => .invalidAddr
  | .invalidCursorPos => .invalidCursorPos
  | .unsupportedBusWidth => .unsupportedBusWidth
  | .notReady => .notReady
  | .illegalRequest => .illegalRequest

/-- The line a cause records in `ERR_PIN` (R28, R246). -/
def Cause.pin : Cause → Option Line
  | .gpioError p _ => some p
  | _ => none

/-- The pin error a cause records in `ERR_INFO` (R29, R246). -/
def Cause.info : Cause → Option PinErr
  | .gpioError _ e => some e
  | _ => none

/-- `LIFE` after a cause: a hardware error, GPIO_ERROR or TIMER_ERROR, makes it Failed (R241, R248). -/
def Cause.life (c : Cause) (l : Life) : Life :=
  match c with
  | .gpioError _ _ => .failed
  | .timerError => .failed
  | .invalidAddr => l
  | .invalidCursorPos => l
  | .unsupportedBusWidth => l
  | .notReady => l
  | .illegalRequest => l

/-- `raise Code(info)` (R246), the engine's one way to end a request with an error. There is no return from
it (R251): the next request simply runs, or after a hardware error is refused. -/
def State.raise (s : State) (c : Cause) : State :=
  { s with seq := [], seqPc := 0, life := c.life s.life }.respond c.code c.pin c.info

/-- The request's completion action (R120): INIT's is `LIFE <- Ready` (R147); no other request has one. -/
def State.completionAction (s : State) : State :=
  match s.cur with
  | some r =>
    match decode r with
    | .ok (.init _) => { s with life := .ready }
    | _ => s
  | none => s

/-- A request ends successfully (R120). -/
def State.complete (s : State) : State := s.completionAction.respond .ok none none

/-- Acceptance latches the request into `CUR` and sets `BUSY` (R80, R242); the host's offer is taken. -/
def State.latch (s : State) (r : Request) (rest : List Request) : State :=
  { s with cur := some r, busy := true, offers := rest }

/-- `SEQ <- expansion; SEQ_PC <- 0` (R242). -/
def State.load (s : State) (ops : List MicroOp) : State := { s with seq := ops, seqPc := 0 }

/-- The state check of a request (R242, R243): accepted when `LIFE` is `want`, else NOT_READY. -/
def State.acceptWhen (s : State) (want : Life) (accepted : State → State) : State :=
  if s.life = want then accepted s else s.raise .notReady

/-- INIT's acceptance action on the ghost state (R146). -/
def State.powerUp (s : State) : State :=
  { s with settleDebt := Config.sPowerup, sync := false, hazard := false }

/-- `ENTRY_MODE <- em` (R190). -/
def State.setEntryMode (s : State) (em : EntryMode) : State := { s with entryMode := em }

/-- Reset while running (R280, R281): the engine's state takes its reset values, no response is given, and
what the agents around the engine hold stays. -/
def State.resetEngine (s : State) : State :=
  { State.reset with
    offers := s.offers
    responses := s.responses
    resetLine := s.resetLine
    pinScript := s.pinScript
    timerScript := s.timerScript
    draws := s.draws }

/-- The level of the reset input at this step (R281). -/
def State.resetNow (s : State) : Bool :=
  match s.resetLine with
  | level :: _ => level
  | [] => false

/-- The reset input has been sampled. -/
def State.resetSampled (s : State) : State := { s with resetLine := s.resetLine.tail }

end Sys2Proof.Machine
end

