-- ==== Sys2Proof/Machine/Sequencer.lean ====
section
/-! DEFINITION. The nibble-transfer sequencer (40_sequencer.md): the building of transfer units from
micro-ops (R112..R114), and the running of one micro-op (R116..R120). -/

namespace Sys2Proof.Machine

/-- The wait between EN high and EN low, emitted only when `P_T_PULSE` > 0 (R112, D12). -/
def pulseWait (P : Params) (u : XferUnit) : List MicroOp :=
  if 0 < P.tPulse then [.wait P.tPulse (.inside u)] else []

/-- `NIB(n)` (R112), inside unit `u`, with the tags of its EN-high and EN-low writes. -/
def nib (P : Params) (n : Nibble) (u : XferUnit) (high low : Tag) : List MicroOp :=
  [ .pin .d4 (nibbleLevel n 0) (.inside u), .pin .d5 (nibbleLevel n 1) (.inside u),
    .pin .d6 (nibbleLevel n 2) (.inside u), .pin .d7 (nibbleLevel n 3) (.inside u),
    .pin .en true high ] ++ pulseWait P u ++ [ .pin .en false low ]

/-- `XFER(rs, b)`, the byte unit (R113). -/
def xfer (P : Params) (rs : Level) (b : Byte) : List MicroOp :=
  let u := XferUnit.byte rs b
  [.pin .rs rs (.inside u)] ++ nib P (hiNibble b) u (.start u) (.inside u) ++
    nib P (loNibble b) u (.inside u) (.stop u)

/-- `XFER_NIB(n)`, the re-sync unit (R114); `last` for the last unit of the pattern (R146). -/
def xferNib (P : Params) (n : Nibble) (last : Bool) : List MicroOp :=
  let u := XferUnit.resync n last
  [.pin .rs false (.inside u)] ++ nib P n u (.start u) (.stop u)

/-- A `WAIT(d)` between units: a settle an expansion lists, or DELAY's own. -/
def settleWait (d : Nat) : List MicroOp := [.wait d .outside]

/-- A `PIN(p, v)` micro-op (R116, R117). The unit-start check runs before the answer is known; an error
ends the request and leaves the line at X. -/
def runPin (p : Line) (v : Level) (tag : Tag) (s : State) : Host.Outcome State Fault Refusal :=
  match s.pinAnswer with
  | none => .fault (.pinPortSilent p)
  | some .ok =>
    .next ((((((s.unitStart tag).pinAnswered).emit (.pinEv p v .ok)).setPin p (.level v)).unitEnd tag).advance)
  | some (.err e) =>
    .next ((((((s.unitStart tag).pinAnswered).emit (.pinEv p v (.err e))).setPin p .x).unitCut tag).raise
      (.gpioError p e))

/-- A `WAIT(d)` micro-op (R118, R119). -/
def runWait (d : Nat) (tag : Tag) (s : State) : Host.Outcome State Fault Refusal :=
  match s.timerAnswer with
  | none => .fault .timerSilent
  | some .ok => .next (((s.timerAnswered.emit (.waitEv d .ok)).credit d).advance)
  | some .err => .next (((s.timerAnswered.emit (.waitEv d .err)).unitCut tag).raise .timerError)

/-- Run one micro-op. -/
def runMicroOp (op : MicroOp) (s : State) : Host.Outcome State Fault Refusal :=
  match op with
  | .pin p v tag => runPin p v tag s
  | .wait d tag => runWait d tag s

/-- The step of a busy engine (R121): complete when `SEQ_PC = len(SEQ)`, else run `SEQ[SEQ_PC]`. -/
def busyStep (s : State) : Host.Outcome State Fault Refusal :=
  match s.seq[s.seqPc]? with
  | some op => runMicroOp op s
  | none => if s.seqPc = s.seq.length then .next s.complete else .fault .seqPcOutOfRange

end Sys2Proof.Machine
end

