-- ==== Sys2Proof/Machine/Address.lean ====
section
/-! DEFINITION. The address controller: SET_CURSOR and SET_CGRAM_ADDR (44_address.md). -/

namespace Sys2Proof.Machine

/-- SET_CURSOR's expansion (R212). -/
def expandSetCursor (P : Params) (col row : Byte) : List MicroOp :=
  xfer P false (cursorByte P col row) ++ settleWait P.tShort

/-- SET_CURSOR (R210..R212): the state check comes before the range check. -/
def execSetCursor (col row : Byte) (s : State) : Host.Outcome State Fault Refusal :=
  .next (s.acceptWhen .ready fun s =>
    if cursorValid Config.engine col row then s.load (expandSetCursor Config.engine col row)
    else s.raise .invalidCursorPos)

/-- SET_CGRAM_ADDR's expansion (R216). -/
def expandSetCgramAddr (P : Params) (addr : Byte) : List MicroOp :=
  xfer P false (cgramByte addr) ++ settleWait P.tShort

/-- SET_CGRAM_ADDR (R215, R216). -/
def execSetCgramAddr (addr : Byte) (s : State) : Host.Outcome State Fault Refusal :=
  .next (s.acceptWhen .ready fun s =>
    if cgramValid Config.engine addr then s.load (expandSetCgramAddr Config.engine addr)
    else s.raise .invalidAddr)

end Sys2Proof.Machine
end

