-- ==== Sys2Proof/Machine/Delay.lean ====
section
/-! DEFINITION. DELAY (45_delay.md). -/

namespace Sys2Proof.Machine

/-- DELAY's expansion (R230): the interval is not checked, and 0 is legal. -/
def expandDelay (interval : Interval) : List MicroOp := settleWait interval.toNat

/-- DELAY (R230). -/
def execDelay (interval : Interval) (s : State) : Host.Outcome State Fault Refusal :=
  .next (s.acceptWhen .ready fun s => s.load (expandDelay interval))

end Sys2Proof.Machine
end

