-- ==== Sys2Proof/Machine/Fixed.lean ====
section
/-! DEFINITION. The fixed-command requests SET_ENTRY_MODE, CLEAR and HOME (43_dispatch.md). -/

namespace Sys2Proof.Machine

/-- SET_ENTRY_MODE's expansion (R191). -/
def expandSetEntryMode (P : Params) (em : EntryMode) : List MicroOp :=
  xfer P false (entryModeByte em) ++ settleWait P.tShort

/-- SET_ENTRY_MODE (R190, R191): `ENTRY_MODE` is written at acceptance. -/
def execSetEntryMode (dir : Direction) (et : Bool) (s : State) : Host.Outcome State Fault Refusal :=
  .next (s.acceptWhen .ready fun s =>
    (s.setEntryMode { dir := dir, et := et }).load
      (expandSetEntryMode Config.engine { dir := dir, et := et }))

/-- CLEAR's expansion (R195). -/
def expandClear (P : Params) : List MicroOp := xfer P false clearByte ++ settleWait P.tLong

/-- CLEAR (R195). -/
def execClear (s : State) : Host.Outcome State Fault Refusal :=
  .next (s.acceptWhen .ready fun s => s.load (expandClear Config.engine))

/-- HOME's expansion (R200). -/
def expandHome (P : Params) : List MicroOp := xfer P false homeByte ++ settleWait P.tLong

/-- HOME (R200). -/
def execHome (s : State) : Host.Outcome State Fault Refusal :=
  .next (s.acceptWhen .ready fun s => s.load (expandHome Config.engine))

end Sys2Proof.Machine
end

