-- ==== Sys2Proof/Machine/Init.lean ====
section
/-! DEFINITION. INIT (41_init.md). -/

namespace Sys2Proof.Machine

/-- The re-sync units of a pattern, each followed by `WAIT(P_T_RESYNC)` (R142). -/
def expandResync (P : Params) : List Nibble → List MicroOp
  | [] => []
  | n :: rest => xferNib P n rest.isEmpty ++ settleWait P.tResync ++ expandResync P rest

/-- INIT's expansion (R141, R142, R143, R145). -/
def expandInit (P : Params) (em : EntryMode) : List MicroOp :=
  settleWait P.tPowerup ++
    expandResync P P.resync ++
    (xfer P false P.initDisplay ++ settleWait P.tShort) ++
    (xfer P false clearByte ++ settleWait P.tLong) ++
    (xfer P false (entryModeByte em) ++ settleWait P.tShort)

/-- INIT (R140..R147): accepted in Uninitialized only; 8-bit mode is refused before any micro-op (R144). -/
def execInit (bw : BusWidth) (s : State) : Host.Outcome State Fault Refusal :=
  .next (s.acceptWhen .uninitialized fun s =>
    match bw with
    | .eightBit => s.raise .unsupportedBusWidth
    | .fourBit => s.powerUp.load (expandInit Config.engine s.entryMode))

end Sys2Proof.Machine
end

