-- ==== Sys2Proof/Machine/Transfer.lean ====
section
/-! DEFINITION. The byte transfer requests COMMAND, WRITE_CHAR and PRINT (42_transfer.md). -/

namespace Sys2Proof.Machine

/-- COMMAND's expansion (R162). -/
def expandCommand (P : Params) (b : Byte) : List MicroOp := xfer P false b

/-- COMMAND (R160..R162): the byte is not checked, and no wait follows it. -/
def execCommand (b : Byte) (s : State) : Host.Outcome State Fault Refusal :=
  .next (s.acceptWhen .ready fun s => s.load (expandCommand Config.engine b))

/-- WRITE_CHAR's expansion (R164). -/
def expandWriteChar (P : Params) (c : Byte) : List MicroOp := xfer P true c

/-- WRITE_CHAR (R163, R164). -/
def execWriteChar (c : Byte) (s : State) : Host.Outcome State Fault Refusal :=
  .next (s.acceptWhen .ready fun s => s.load (expandWriteChar Config.engine c))

/-- PRINT's expansion (R168): `WAIT(P_T_CHAR)` between characters, `WAIT(P_T_TAIL)` after the last. -/
def expandPrint (P : Params) : List Byte → List MicroOp
  | [] => []
  | [c] => xfer P true c ++ settleWait P.tTail
  | c :: d :: rest => xfer P true c ++ settleWait P.tChar ++ expandPrint P (d :: rest)

/-- PRINT (R165..R171): neither `LEN` nor the bytes are checked. -/
def execPrint (payload : List Byte) (s : State) : Host.Outcome State Fault Refusal :=
  .next (s.acceptWhen .ready fun s => s.load (expandPrint Config.engine payload))

end Sys2Proof.Machine
end

