-- ==== Sys2Proof/Machine/Dispatch.lean ====
section
/-! DEFINITION. One arm a request: what the engine does with a decoded request once it is latched (R242). -/

namespace Sys2Proof.Machine

def exec (i : Instr) (s : State) : Host.Outcome State Fault Refusal :=
  match i with
  | .init bw => Sys2Proof.Machine.execInit bw s
  | .command b => Sys2Proof.Machine.execCommand b s
  | .writeChar c => Sys2Proof.Machine.execWriteChar c s
  | .print payload => Sys2Proof.Machine.execPrint payload s
  | .setEntryMode dir et => Sys2Proof.Machine.execSetEntryMode dir et s
  | .setCursor col row => Sys2Proof.Machine.execSetCursor col row s
  | .setCgramAddr addr => Sys2Proof.Machine.execSetCgramAddr addr s
  | .clear => Sys2Proof.Machine.execClear s
  | .home => Sys2Proof.Machine.execHome s
  | .delay interval => Sys2Proof.Machine.execDelay interval s

end Sys2Proof.Machine
end

