-- ==== Sys2Proof/Machine/Engine.lean ====
section
/-! DEFINITION. The whole engine step (R121), the reset input (R281), and the placing of a request where the
next step takes it. -/

namespace Sys2Proof.Machine

/-- A request is taken (R80, R242): latched, decoded, and executed or answered ILLEGAL_REQUEST. A PRINT
whose payload is incomplete is never accepted (R255, I9). -/
def acceptRequest (r : Request) (rest : List Request) (s : State) : Host.Outcome State Fault Refusal :=
  match decode r with
  | .ok i => exec i (s.latch r rest)
  | .error .payloadIncomplete => .fault .payloadIncomplete
  | .error .reservedOpcode => .next ((s.latch r rest).raise .illegalRequest)
  | .error .reservedBits => .next ((s.latch r rest).raise .illegalRequest)

/-- The step of an idle engine (R121): the oldest offer is accepted; with none, nothing happens (log entry 8). -/
def idleStep (s : State) : Host.Outcome State Fault Refusal :=
  match s.offers with
  | r :: rest => acceptRequest r rest s
  | [] => .next s

/-- One step of the engine (R121). -/
def engineStep (s : State) : Host.Outcome State Fault Refusal :=
  match s.busy with
  | true => busyStep s
  | false => idleStep s

/-- One step of the machine: the reset input is sampled (R281), then the engine steps. -/
def machineStep (s : State) : Host.Outcome State Fault Refusal :=
  match s.resetNow with
  | true => .next s.resetSampled.resetEngine
  | false => engineStep s.resetSampled

/-- The host offers `r` first, the engine is idle and the reset input is low at the next step. -/
def State.offerNow (s : State) (r : Request) : State :=
  { s with offers := r :: s.offers, busy := false, resetLine := false :: s.resetLine }

end Sys2Proof.Machine
end

