-- ==== Sys2Proof/Machine/Step.lean ====
section
/-! DEFINITION. The step, and the placing of an instruction where the step takes its next one. -/

namespace Sys2Proof.Machine

/-- One step of the machine (R121, R281). -/
def step (s : State) : Host.Outcome State Fault Refusal := machineStep s

/-- The state with the request of the word `w` offered to an idle engine, so that the next step runs it
(log entry 9). -/
def State.withFetchWord (s : State) (nbits w : Nat) : State := s.offerNow (tableRequest nbits w)

end Sys2Proof.Machine
end

