-- ==== Sys2Proof/Machine/Observe.lean ====
section
/-! DEFINITION. What the controller latches, as functions of `TRACE` (R56, R57, R58). No engine rule uses them. -/

namespace Sys2Proof.Machine

/-- `PIN_LVL` after an event (R30): the level written, or X where the write failed. -/
def levelsStep (l : PinLevels) (ev : Event) : PinLevels :=
  match ev with
  | .pinEv p v .ok => l.set p (.level v)
  | .pinEv p _ (.err _) => l.set p .x
  | .waitEv _ _ => l

/-- `PIN_LVL` after a trace that began at reset. -/
def levelsAfter (es : List Event) : PinLevels := es.foldl levelsStep PinLevels.unknown

/-- Whether the most recent EN event is `PinEv(EN, 1, ok)`, after one more event (R56). -/
def enHighStep (high : Bool) (ev : Event) : Bool :=
  match ev with
  | .pinEv .en true .ok => true
  | .pinEv .en false .ok => false
  | .pinEv .en _ (.err _) => false
  | .pinEv _ _ _ => high
  | .waitEv _ _ => high

/-- What the controller takes at a falling edge of EN: the pair (rs, n), n given by its four lines, each
level X where it is unknown (R57). -/
structure Latch where
  rs : Shadow
  d7 : Shadow
  d6 : Shadow
  d5 : Shadow
  d4 : Shadow
deriving DecidableEq, Repr

/-- The levels of RS and the data lines (R57). -/
def PinLevels.latch (l : PinLevels) : Latch :=
  { rs := l.rs, d7 := l.d7, d6 := l.d6, d5 := l.d5, d4 := l.d4 }

/-- The event is a latch event, given that the most recent EN event was a successful EN high or not (R56). -/
def isLatchEvent (high : Bool) (ev : Event) : Bool :=
  match ev with
  | .pinEv .en false .ok => high
  | _ => false

/-- The event is an uncertain latch: an EN-low write that failed (R56). -/
def isUncertainLatch (ev : Event) : Bool :=
  match ev with
  | .pinEv .en false (.err _) => true
  | _ => false

/-- The latched stream of a trace, from the levels and the state of EN before it (R58). -/
def latchedFrom (l : PinLevels) (high : Bool) : List Event → List Latch
  | [] => []
  | ev :: rest =>
    if isLatchEvent high ev then l.latch :: latchedFrom (levelsStep l ev) (enHighStep high ev) rest
    else latchedFrom (levelsStep l ev) (enHighStep high ev) rest

/-- The latched stream of a run (R58). -/
def latchedStream (es : List Event) : List Latch := latchedFrom PinLevels.unknown false es

/-- One item of the delivered stream (R58): a byte with its register-select level, a re-sync nibble, or a
unit some level of which is unknown (R57). -/
inductive Delivery where
  | byte (rs : Level) (b : Byte)
  | resync (n : Nibble)
  | unknown
deriving DecidableEq, Repr

/-- The nibble of a latch, where all four data levels are known. -/
def Latch.nibble (l : Latch) : Option Nibble :=
  match l.d7, l.d6, l.d5, l.d4 with
  | .level b3, .level b2, .level b1, .level b0 =>
    some (BitVec.ofBool b3 ++ BitVec.ofBool b2 ++ BitVec.ofBool b1 ++ BitVec.ofBool b0)
  | _, _, _, _ => none

/-- A completed byte unit's delivery: `(rs, n_hi ++ n_lo)` (R58). -/
def deliverByte (hi lo : Latch) : Delivery :=
  match lo.rs, hi.nibble, lo.nibble with
  | .level rs, some h, some l => .byte rs (h ++ l)
  | _, _, _ => .unknown

/-- A completed re-sync unit's delivery (R58). -/
def deliverResync (l : Latch) : Delivery :=
  match l.nibble with
  | some n => .resync n
  | none => .unknown

/-- Where a reading of the trace stands: the levels, the state of EN, and the latches of the unit in
progress, none outside every unit. -/
structure Reading where
  levels  : PinLevels
  enHigh  : Bool
  pending : Option (List Latch)
deriving DecidableEq, Repr

/-- The reading at the start of a trace. -/
def Reading.start : Reading := { levels := PinLevels.unknown, enHigh := false, pending := none }

/-- The units of a trace, told apart by their events (R113, R114, log entry 10): a unit begins at its RS
write; a byte unit ends at its second latch; a re-sync unit is one latch and then a wait; a failed write, or a
failed wait while EN is high, cuts the unit off. Answers the unit in progress after `ev`, and what `ev` delivers. -/
def unitStep (r : Reading) (ev : Event) : Option (List Latch) × List Delivery :=
  match ev, r.pending with
  | .pinEv .rs _ .ok, _ => (some [], [])
  | .pinEv _ _ (.err _), _ => (none, [])
  | .pinEv .en false .ok, some [] => (if r.enHigh then some [r.levels.latch] else some [], [])
  | .pinEv .en false .ok, some (hi :: _) =>
    if r.enHigh then (none, [deliverByte hi r.levels.latch]) else (r.pending, [])
  | .waitEv _ .ok, some (n :: _) => if r.enHigh then (r.pending, []) else (none, [deliverResync n])
  | .waitEv _ .err, some (n :: _) => if r.enHigh then (none, []) else (none, [deliverResync n])
  | .waitEv _ .err, some [] => (none, [])
  | _, p => (p, [])

/-- The delivered stream of a trace, from a reading before it (R58). -/
def deliveredFrom (r : Reading) : List Event → List Delivery
  | [] => []
  | ev :: rest =>
    (unitStep r ev).2 ++
      deliveredFrom
        { levels := levelsStep r.levels ev, enHigh := enHighStep r.enHigh ev, pending := (unitStep r ev).1 } rest

/-- The delivered stream of a run (R58). -/
def deliveredStream (es : List Event) : List Delivery := deliveredFrom Reading.start es

end Sys2Proof.Machine
end

