-- ==== Sys2Proof/Safety.lean ====
section
/-! DEFINITION. The terms claims are stated in: the end of a run and what is observed there (R256, R297), the
flat forms of the transfer units and their events (95_test_vectors.md §0), the invariants of the engine, and the
scoreboard's reading of an expansion (R296). -/

namespace Sys2Proof.Machine

/-- A run ends where the engine is idle and the host offers nothing (R256). -/
def State.ended (s : State) : Bool := !s.busy && s.offers.isEmpty

/-- The observation at the end of a run (R256). -/
structure Observation where
  trace     : List Event
  latched   : List Latch
  delivered : List Delivery
  status    : StatusReg
  life      : Life
  entryMode : EntryMode
  pinLvl    : PinLevels
  hazard    : Bool
  sync      : Bool
deriving DecidableEq, Repr

/-- What is observed of a run at its end, and nothing before it (R256). -/
def State.observation (s : State) : Option Observation :=
  if s.ended then
    some { trace := s.trace
           latched := latchedStream s.trace
           delivered := deliveredStream s.trace
           status := s.status
           life := s.life
           entryMode := s.entryMode
           pinLvl := s.pinLvl
           hazard := s.hazard
           sync := s.sync }
  else none

/-- The bytes the controller may be said to have received: a run with `HAZARD` = 1 gives none (R58, R297). -/
def State.received (s : State) : Option (List Delivery) :=
  if s.hazard then none else some (deliveredStream s.trace)

/-- The state of a next outcome. -/
def nextState (o : Host.Outcome State Fault Refusal) : Option State :=
  match o with
  | .next s => some s
  | .fault _ => none
  | .refused _ => none

/-- `k` steps, stopping at the first fault or refusal: `Host.Core.run` of this machine (Laws/Ops.lean). -/
def steps : Nat → State → Host.Outcome State Fault Refusal
  | 0, s => .next s
  | k + 1, s =>
    match step s with
    | .next t => steps k t
    | .fault r => .fault r
    | .refused r => .refused r

/-- An outcome with a function applied to its next state. -/
def mapNext (f : State → State) (o : Host.Outcome State Fault Refusal) : Host.Outcome State Fault Refusal :=
  match o with
  | .next s => .next (f s)
  | .fault r => .fault r
  | .refused r => .refused r

/-- A micro-op without its ghost tag (R111). -/
def MicroOp.untagged : MicroOp → MicroOp
  | .pin p v _ => .pin p v .outside
  | .wait d _ => .wait d .outside

/-- The state with the settle scoreboard and the tags blanked out: what the hardware holds, and TRACE
(R34, R35, R36, R111). -/
def State.hardwareView (s : State) : State :=
  { s with settleDebt := 0, hazard := false, sync := false, seq := s.seq.map MicroOp.untagged }

/-- The event is a micro-op that failed: a hardware error (R241). -/
def Event.failed : Event → Bool
  | .pinEv _ _ .ok => false
  | .pinEv _ _ (.err _) => true
  | .waitEv _ .ok => false
  | .waitEv _ .err => true

/-- The event is an answer to the micro-op (R31). -/
def MicroOp.answeredBy (op : MicroOp) (ev : Event) : Bool :=
  match op, ev with
  | .pin p v _, .pinEv q w _ => p == q && v == w
  | .wait d _, .waitEv e _ => d == e
  | .pin _ _ _, .waitEv _ _ => false
  | .wait _ _, .pinEv _ _ _ => false

/-- The four entry-mode command bytes (R192). -/
def entryModeCommand (em : EntryMode) : Byte :=
  match em.dir, em.et with
  | .leftToRight, false => 0x04#8
  | .leftToRight, true => 0x05#8
  | .rightToLeft, false => 0x06#8
  | .rightToLeft, true => 0x07#8

/-- The thirteen pin writes of a byte unit, written out bit by bit (R55, R113, `P_T_PULSE` = 0). -/
def byteUnitOps (rs : Level) (b : Byte) : List MicroOp :=
  [ .pin .rs rs (.inside (.byte rs b)),
    .pin .d4 (b.getLsbD 4) (.inside (.byte rs b)), .pin .d5 (b.getLsbD 5) (.inside (.byte rs b)),
    .pin .d6 (b.getLsbD 6) (.inside (.byte rs b)), .pin .d7 (b.getLsbD 7) (.inside (.byte rs b)),
    .pin .en true (.start (.byte rs b)), .pin .en false (.inside (.byte rs b)),
    .pin .d4 (b.getLsbD 0) (.inside (.byte rs b)), .pin .d5 (b.getLsbD 1) (.inside (.byte rs b)),
    .pin .d6 (b.getLsbD 2) (.inside (.byte rs b)), .pin .d7 (b.getLsbD 3) (.inside (.byte rs b)),
    .pin .en true (.inside (.byte rs b)), .pin .en false (.stop (.byte rs b)) ]

/-- The seven pin writes of a re-sync unit, written out (R114, `P_T_PULSE` = 0). -/
def resyncUnitOps (n : Nibble) (last : Bool) : List MicroOp :=
  [ .pin .rs false (.inside (.resync n last)),
    .pin .d4 (n.getLsbD 0) (.inside (.resync n last)), .pin .d5 (n.getLsbD 1) (.inside (.resync n last)),
    .pin .d6 (n.getLsbD 2) (.inside (.resync n last)), .pin .d7 (n.getLsbD 3) (.inside (.resync n last)),
    .pin .en true (.start (.resync n last)), .pin .en false (.stop (.resync n last)) ]

/-- A wait between units, as the list of its one micro-op (R11). -/
def waitOps (d : Nat) : List MicroOp := [.wait d .outside]

/-- The 75 micro-ops of INIT FourBit when its entry-mode byte is `em` (R148). -/
def initOps (em : Byte) : List MicroOp :=
  waitOps 50000 ++
    resyncUnitOps 0x3#4 false ++ waitOps 150 ++
    resyncUnitOps 0x3#4 false ++ waitOps 150 ++
    resyncUnitOps 0x3#4 false ++ waitOps 150 ++
    resyncUnitOps 0x2#4 true ++ waitOps 150 ++
    byteUnitOps false 0x0C#8 ++ waitOps 39 ++
    byteUnitOps false 0x01#8 ++ waitOps 1530 ++
    byteUnitOps false em ++ waitOps 39

/-- PRINT's micro-ops: for each k, the byte unit of P[k] and its wait, 320 µs, or 1530 µs after the last
character (R168). -/
def printOps (payload : List Byte) : List MicroOp :=
  (List.range payload.length).flatMap fun k =>
    byteUnitOps true (payload.getD k 0#8) ++
      waitOps (if k + 1 < payload.length then 320 else 1530)

/-- A micro-op answered ok, as an event. -/
def MicroOp.okEvent : MicroOp → Event
  | .pin p v _ => .pinEv p v .ok
  | .wait d _ => .waitEv d .ok

/-- The events of a list of micro-ops that are all answered ok. -/
def okEvents (ops : List MicroOp) : List Event := ops.map MicroOp.okEvent

/-- The six events of a nibble (95_test_vectors.md §0). -/
def nibbleEvents (n : Nibble) : List Event :=
  [ .pinEv .d4 (n.getLsbD 0) .ok, .pinEv .d5 (n.getLsbD 1) .ok, .pinEv .d6 (n.getLsbD 2) .ok,
    .pinEv .d7 (n.getLsbD 3) .ok, .pinEv .en true .ok, .pinEv .en false .ok ]

/-- `X(rs, b)`, the thirteen events of a byte unit (95_test_vectors.md §0). -/
def byteEvents (rs : Level) (b : Byte) : List Event :=
  [.pinEv .rs rs .ok] ++ nibbleEvents (b.extractLsb' 4 4) ++ nibbleEvents (b.extractLsb' 0 4)

/-- `N(n)`, the seven events of a re-sync unit (95_test_vectors.md §0). -/
def resyncEvents (n : Nibble) : List Event := [.pinEv .rs false .ok] ++ nibbleEvents n

/-- `W(d)` (95_test_vectors.md §0). -/
def waitEvents (d : Nat) : List Event := [.waitEv d .ok]

/-- The 75 events of INIT FourBit (95_test_vectors.md V-S6), with the entry-mode byte `em` last. -/
def initEvents (em : Byte) : List Event :=
  waitEvents 50000 ++ resyncEvents 0x3#4 ++ waitEvents 150 ++ resyncEvents 0x3#4 ++ waitEvents 150 ++
    resyncEvents 0x3#4 ++ waitEvents 150 ++ resyncEvents 0x2#4 ++ waitEvents 150 ++
    byteEvents false 0x0C#8 ++ waitEvents 39 ++ byteEvents false 0x01#8 ++ waitEvents 1530 ++
    byteEvents false em ++ waitEvents 39

/-- The events of PRINT: each character's byte unit and its wait (R168). -/
def printEvents : List Byte → List Event
  | [] => []
  | [c] => byteEvents true c ++ waitEvents 1530
  | c :: d :: rest => byteEvents true c ++ waitEvents 320 ++ printEvents (d :: rest)

/-- The lines after a byte unit that completed: the low nibble's levels, EN low (R55). -/
def busLevels (rs : Level) (b : Byte) : PinLevels :=
  { en := .level false, rs := .level rs, d4 := .level (b.getLsbD 0), d5 := .level (b.getLsbD 1),
    d6 := .level (b.getLsbD 2), d7 := .level (b.getLsbD 3) }

/-- The waits of a list of micro-ops, summed (R301). -/
def waitTotal : List MicroOp → Nat
  | [] => 0
  | .pin _ _ _ :: rest => waitTotal rest
  | .wait d _ :: rest => d + waitTotal rest

/-- The pin writes in a list of micro-ops. -/
def pinCount (ops : List MicroOp) : Nat :=
  ops.countP fun op => match op with | .pin _ _ _ => true | .wait _ _ => false

/-- What a request leaves that answered OK: `STATUS` says OK and the response has been given (R120). -/
def State.answeredOk (s : State) : State :=
  { s with
    code := .ok
    errPin := none
    errInfo := none
    busy := false
    responses := s.responses ++
      [{ code := .ok, life := s.life, busy := false, errPin := none, errInfo := none }] }

/-- What a request error leaves: the micro-ops dropped, `STATUS` written, the response given, and nothing
else (R241, R246). -/
def State.answeredError (s : State) (code : Code) : State :=
  { s with
    seq := []
    seqPc := 0
    code := code
    errPin := none
    errInfo := none
    busy := false
    responses := s.responses ++
      [{ code := code, life := s.life, busy := false, errPin := none, errInfo := none }] }

/-- The premises of a whole request of `pins` pin writes and `waits` waits: an idle engine, the request offered
first, ports that answer ok to each of them, and a reset input that is low at every step of the run, which are
those micro-ops, the acceptance and the completion. What the input's later levels are is left open. -/
structure State.Offers (s : State) (r : Request) (rest : List Request) (pins waits : Nat)
    (ps : List (Option PinAnswer)) (ts : List (Option TimerAnswer)) : Prop where
  idle : s.busy = false
  noReset : ∀ level ∈ s.resetLine.take (pins + waits + 2), level = false
  offered : s.offers = r :: rest
  pinsOk : s.pinScript = List.replicate pins (some .ok) ++ ps
  waitsOk : s.timerScript = List.replicate waits (some .ok) ++ ts

/-- The state at the end of a whole request that was answered OK, but for the state its micro-ops changed:
the request latched, its expansion run to its end, the answers and the sampled levels of the reset input used
up, and the response given. -/
def State.ranOk (s : State) (r : Request) (rest : List Request) (ops : List MicroOp) (events : List Event)
    (ps : List (Option PinAnswer)) (ts : List (Option TimerAnswer)) : State :=
  { s with
    cur := some r
    offers := rest
    seq := ops
    seqPc := ops.length
    trace := s.trace ++ events
    resetLine := s.resetLine.drop (ops.length + 2)
    pinScript := ps
    timerScript := ts }

/-- `HAZARD` after a byte unit has started in state `s` (R293). -/
def State.hazardAtByte (s : State) : Bool := s.hazard || owes s.settleDebt || !s.sync

/-- Every wait of a list of micro-ops fits the timer port (R110, R263). -/
def waitsFit (ops : List MicroOp) : Bool :=
  ops.all fun op => match op with | .pin _ _ _ => true | .wait d _ => decide (d < 2 ^ Config.wDelay)

/-- The latched request is an INIT. -/
def servesInit (cur : Option Request) : Bool :=
  match cur with
  | some r =>
    match decode r with
    | .ok (.init _) => true
    | _ => false
  | none => false

/-- The latched request decodes. -/
def servesLegal (cur : Option Request) : Bool :=
  match cur with
  | some r =>
    match decode r with
    | .ok _ => true
    | .error _ => false
  | none => false

/-- The invariant of the engine's registers: `SEQ_PC` within `SEQ` (R32); every wait within the timer's range
(R110); `ERR_PIN` and `ERR_INFO` set exactly for GPIO_ERROR (R28, R29); a hardware error code only in Failed
(R240, R248); a Failed engine idle (R246); a busy engine serving a legal request, INIT exactly when
Uninitialized (R23, R33). -/
structure State.RegistersOk (s : State) : Prop where
  pcInRange : s.seqPc ≤ s.seq.length
  waitsInRange : waitsFit s.seq = true
  errPinOnlyGpio : s.errPin.isSome = true ↔ s.code = .gpioError
  errInfoOnlyGpio : s.errInfo.isSome = true ↔ s.code = .gpioError
  hardwareErrorFailed : s.code = .gpioError ∨ s.code = .timerError → s.life = .failed
  failedIdle : s.life = .failed → s.busy = false
  busyLegal : s.busy = true → servesLegal s.cur = true
  busyInit : s.busy = true → (servesInit s.cur = true ↔ s.life = .uninitialized)

/-- `PIN_LVL` is what `TRACE` says of the lines (R30, R31). -/
def State.LevelsMatchTrace (s : State) : Prop := s.pinLvl = levelsAfter s.trace

/-- Whether the most recent EN event of a trace is a successful EN high (R56). -/
def enHigh (es : List Event) : Bool := es.foldl enHighStep false

/-- The enable pulses of a trace bracket stable nibbles, starting with EN's last event high or not: EN goes
low only after it went high, goes high only from low, and no other line is written between (R56, R57). -/
def eventsBracketed (high : Bool) : List Event → Bool
  | [] => true
  | ev :: rest =>
    (match ev with
      | .pinEv .en true _ => !high
      | .pinEv .en false _ => high
      | .pinEv _ _ _ => !high
      | .waitEv _ _ => true) && eventsBracketed (enHighStep high ev) rest

/-- The same of micro-ops still to run, which must leave EN low. -/
def opsBracketed (high : Bool) : List MicroOp → Bool
  | [] => !high
  | op :: rest =>
    (match op with
      | .pin .en true _ => !high
      | .pin .en false _ => high
      | .pin _ _ _ => !high
      | .wait _ _ => true) && opsBracketed (enHighStep high op.okEvent) rest

/-- The invariant of the enable line: the pulses so far bracket stable nibbles, so will those of a busy
engine's remaining micro-ops, and an idle engine that is not Failed has EN low (R56, R57). -/
structure State.PulsesOk (s : State) : Prop where
  past : eventsBracketed false s.trace = true
  coming : s.busy = true → opsBracketed (enHigh s.trace) (s.seq.drop s.seqPc) = true
  idleLow : s.busy = false → s.life ≠ .failed → enHigh s.trace = false

/-- The scoreboard finds no hazard in a list of micro-ops that are all answered ok, begun with debt `debt`
and `SYNC` = `sync` (R292..R295). -/
def settled (debt : Nat) (sync : Bool) : List MicroOp → Bool
  | [] => true
  | .wait d _ :: rest => settled (debt - d) sync rest
  | .pin _ _ (.start u) :: rest =>
    decide (debt = 0) && (sync || !isByteUnit u) && settled debt sync rest
  | .pin _ _ (.stop u) :: rest => settled (settle u) (syncAfter u sync) rest
  | .pin _ _ (.inside _) :: rest => settled debt sync rest
  | .pin _ _ .outside :: rest => settled debt sync rest

/-- A request without hazards: none so far, and none in what a busy engine has still to run (R296). -/
structure State.Settled (s : State) : Prop where
  past : s.hazard = false
  coming : s.busy = true → settled s.settleDebt s.sync (s.seq.drop s.seqPc) = true

/-- The rows of spec/opcode_table.json: a word of the row is one whose bits under the mask are `match`. -/
def opcodeRows : List (Word × Word) :=
  [ (0x10000000#32, 0xFFFFFFFE#32), (0x20000000#32, 0xFFFFFF00#32), (0x30000000#32, 0xFFFFFF00#32),
    (0x40000000#32, 0xFFFF0000#32), (0x50000000#32, 0xFFFFFFFC#32), (0x60000000#32, 0xFFFF0000#32),
    (0x70000000#32, 0xFFFFFF00#32), (0x80000000#32, 0xFFFFFFFF#32), (0x90000000#32, 0xFFFFFFFF#32),
    (0xA0000000#32, 0xF0000000#32) ]

/-- The word is one of a row of the opcode table. -/
def inOpcodeTable (w : Word) : Bool := opcodeRows.any fun row => w &&& row.2 == row.1

/-- `LIFE` accepts the request (R23). -/
def accepts (l : Life) (i : Instr) : Bool :=
  match i with
  | .init _ => l == .uninitialized
  | .command _ => l == .ready
  | .writeChar _ => l == .ready
  | .print _ => l == .ready
  | .setEntryMode _ _ => l == .ready
  | .setCursor _ _ => l == .ready
  | .setCgramAddr _ => l == .ready
  | .clear => l == .ready
  | .home => l == .ready
  | .delay _ => l == .ready

end Sys2Proof.Machine
end

