-- ==== Sys2Proof/Certificates/Slice0/Obligations.lean ====
section
/-! DEFINITION. The statements for the provers, from the numbered rules of the spec. Statements about answers of
the pin port and the timer hold for every script and every free answer. -/

open Sys2Proof Sys2Proof.Machine

/-! ### Reset -/

/-- R280: the reset value of every piece of state in the list of R21. -/
def Obligations.ResetSetsEveryRegister : Prop :=
  State.reset.life = .uninitialized ∧ State.reset.entryMode = { dir := .rightToLeft, et := false } ∧
  State.reset.statusWord = 0x00000700#32 ∧ State.reset.cur = none ∧ State.reset.seq = [] ∧
  State.reset.seqPc = 0 ∧ (∀ p, State.reset.pinLvl.get p = .x) ∧ State.reset.trace = [] ∧
  State.reset.settleDebt = 0 ∧ State.reset.hazard = false ∧ State.reset.sync = false

/-- R280, R281: reset may come at any time, while a request runs too. It sets every piece of the engine's state to its
reset value, runs no further micro-op and gives no response for the request it cuts off. That the input is sampled
once a step, and that what the agents around the engine hold stays, is the model's choice (log entry 5). -/
def Obligations.ResetCutsARequestOffWithoutResponse : Prop :=
  ∀ (s : State) (rest : List Bool), s.resetLine = true :: rest →
    step s = .next { State.reset with
      offers := s.offers, responses := s.responses, resetLine := rest, pinScript := s.pinScript,
      timerScript := s.timerScript, draws := s.draws }

/-! ### STATUS -/

/-- R25, with the numbers R22, R26, R28, R29 and R240 give: the fields of the STATUS word in every state: CODE, the
copy of LIFE, BUSY, ERR_PIN and ERR_INFO in their places, the reserved bits 0; the number of every result code, LIFE
value and line, 7 and 0 for none; LIFE's field is never 3 and CODE's never 8 or more. -/
def Obligations.StatusWordLayout : Prop :=
  (∀ s : State,
    s.statusWord.extractLsb' 0 4 = codeNumber s.code ∧
    s.statusWord.extractLsb' 4 2 = lifeNumber s.life ∧
    s.statusWord.extractLsb' 6 1 = BitVec.ofBool s.busy ∧
    s.statusWord.extractLsb' 7 1 = 0#1 ∧
    s.statusWord.extractLsb' 8 3 = errPinNumber s.errPin ∧
    s.statusWord.extractLsb' 11 5 = 0#5 ∧
    s.statusWord.extractLsb' 16 16 = errInfoNumber s.errInfo ∧
    s.statusWord.extractLsb' 4 2 ≠ 3#2 ∧ (s.statusWord.extractLsb' 0 4).toNat < 8) ∧
  (codeNumber .ok = 0#4 ∧ codeNumber .gpioError = 1#4 ∧ codeNumber .timerError = 2#4 ∧
    codeNumber .invalidAddr = 3#4 ∧ codeNumber .invalidCursorPos = 4#4 ∧
    codeNumber .unsupportedBusWidth = 5#4 ∧ codeNumber .notReady = 6#4 ∧ codeNumber .illegalRequest = 7#4) ∧
  (lifeNumber .uninitialized = 0#2 ∧ lifeNumber .ready = 1#2 ∧ lifeNumber .failed = 2#2) ∧
  (errPinNumber (some .en) = 0#3 ∧ errPinNumber (some .rs) = 1#3 ∧ errPinNumber (some .d4) = 2#3 ∧
    errPinNumber (some .d5) = 3#3 ∧ errPinNumber (some .d6) = 4#3 ∧ errPinNumber (some .d7) = 5#3 ∧
    errPinNumber none = 7#3) ∧
  (∀ e : PinErr, errInfoNumber (some e) = Config.encPinErr e) ∧ errInfoNumber none = 0#16

/-! ### Encoding -/

/-- Decoding an encoded well-formed request gives it back, every operand and every payload byte. -/
def Obligations.DecodeOfEncodeIsIdentity : Prop :=
  ∀ i : Instr, i.wellFormed = true → decode (encode i) = .ok i

/-- R83: decoding is the table of R83, row by row, in the arithmetic of the word's bits; a decoded request encodes back
into the one word it came from, so that decoding is injective on legal words; and Illegal raises ILLEGAL_REQUEST. -/
def Obligations.DecoderFollowsTheWordTable : Prop :=
  (∀ (w : Word) (payload : List Byte) (op area : Nat), w.toNat = op * 2 ^ 28 + area → area < 2 ^ 28 →
    (op = 0x1 → decode ⟨w, payload⟩ =
      if area / 2 = 0 then .ok (.init (if area = 1 then .eightBit else .fourBit)) else .error .reservedBits) ∧
    (op = 0x2 → decode ⟨w, payload⟩ =
      if area / 2 ^ 8 = 0 then .ok (.command (BitVec.ofNat 8 area)) else .error .reservedBits) ∧
    (op = 0x3 → decode ⟨w, payload⟩ =
      if area / 2 ^ 8 = 0 then .ok (.writeChar (BitVec.ofNat 8 area)) else .error .reservedBits) ∧
    (op = 0x4 → area / 2 ^ 16 = 0 → payload.length = area → decode ⟨w, payload⟩ = .ok (.print payload)) ∧
    (op = 0x4 → area / 2 ^ 16 ≠ 0 → decode ⟨w, payload⟩ = .error .reservedBits) ∧
    (op = 0x5 → decode ⟨w, payload⟩ =
      if area / 2 ^ 2 = 0 then
        .ok (.setEntryMode (if area / 2 = 1 then .rightToLeft else .leftToRight) (area % 2 == 1))
      else .error .reservedBits) ∧
    (op = 0x6 → decode ⟨w, payload⟩ =
      if area / 2 ^ 16 = 0 then .ok (.setCursor (BitVec.ofNat 8 (area % 2 ^ 8)) (BitVec.ofNat 8 (area / 2 ^ 8)))
      else .error .reservedBits) ∧
    (op = 0x7 → decode ⟨w, payload⟩ =
      if area / 2 ^ 8 = 0 then .ok (.setCgramAddr (BitVec.ofNat 8 area)) else .error .reservedBits) ∧
    (op = 0x8 → decode ⟨w, payload⟩ = if area = 0 then .ok .clear else .error .reservedBits) ∧
    (op = 0x9 → decode ⟨w, payload⟩ = if area = 0 then .ok .home else .error .reservedBits) ∧
    (op = 0xA → decode ⟨w, payload⟩ = .ok (.delay (BitVec.ofNat 28 area))) ∧
    (op = 0 ∨ 0xB ≤ op → decode ⟨w, payload⟩ = .error .reservedOpcode)) ∧
  (∀ (r : Request) (i : Instr), decode r = .ok i → encodeWord i = r.word) ∧
  (∀ (s : State) (r : Request) (rest : List Request),
    s.busy = false → s.resetNow = false → s.offers = r :: rest →
    decode r = .error .reservedOpcode ∨ decode r = .error .reservedBits →
    ∃ t, step s = .next t ∧ t.busy = false ∧ t.code = .illegalRequest)

/-- R87, R255, I9: a PRINT takes exactly the LEN bytes of its word; offered with fewer it is never accepted and the
idle engine is stuck. Bytes beyond LEN are dropped, which is the model's reading (log entry 7). -/
def Obligations.PrintTakesExactlyItsLenBytes : Prop :=
  ∀ (len : BitVec 16) (payload : List Byte),
    (len.toNat ≤ payload.length →
      decode ⟨0x4#4 ++ 0#12 ++ len, payload⟩ = .ok (.print (payload.take len.toNat))) ∧
    (payload.length < len.toNat → ∀ (s : State) (rest : List Request),
      s.busy = false → s.resetNow = false → s.offers = ⟨0x4#4 ++ 0#12 ++ len, payload⟩ :: rest →
      step s = .fault .payloadIncomplete)

/-- Words written out from the spec's encodings (95_test_vectors.md) decode to the requests they stand for. -/
def Obligations.SpecWordsDecode : Prop :=
  decode ⟨0x10000000#32, []⟩ = .ok (.init .fourBit) ∧
  decode ⟨0x10000001#32, []⟩ = .ok (.init .eightBit) ∧
  decode ⟨0x2000000C#32, []⟩ = .ok (.command 0x0C#8) ∧
  decode ⟨0x30000048#32, []⟩ = .ok (.writeChar 0x48#8) ∧
  decode ⟨0x40000002#32, [0x48#8, 0x69#8]⟩ = .ok (.print [0x48#8, 0x69#8]) ∧
  decode ⟨0x50000001#32, []⟩ = .ok (.setEntryMode .leftToRight true) ∧
  decode ⟨0x50000002#32, []⟩ = .ok (.setEntryMode .rightToLeft false) ∧
  decode ⟨0x60000105#32, []⟩ = .ok (.setCursor 5#8 1#8) ∧
  decode ⟨0x70000008#32, []⟩ = .ok (.setCgramAddr 8#8) ∧
  decode ⟨0x80000000#32, []⟩ = .ok .clear ∧
  decode ⟨0x90000000#32, []⟩ = .ok .home ∧
  decode ⟨0xA0000027#32, []⟩ = .ok (.delay 39#28) ∧
  decode ⟨0x00000000#32, []⟩ = .error .reservedOpcode ∧
  decode ⟨0xF1234567#32, []⟩ = .error .reservedOpcode ∧
  decode ⟨0x10000002#32, []⟩ = .error .reservedBits ∧
  decode ⟨0x80000001#32, []⟩ = .error .reservedBits

/-! ### Acceptance -/

/-- R80, R121, R242: when the engine is idle, the reset input low and the oldest offer decodes to `i`, the step is
`exec i` of the state in which the offer is taken, latched into CUR, and BUSY set. -/
def Obligations.StepRunsTheAcceptedRequest : Prop :=
  ∀ (s : State) (r : Request) (rest : List Request) (i : Instr),
    s.busy = false → s.resetNow = false → s.offers = r :: rest → decode r = .ok i →
    step s = exec i { s with resetLine := s.resetLine.tail, cur := some r, busy := true, offers := rest }

/-- R244: a word of no row of the opcode table, offered to an idle engine, is answered ILLEGAL_REQUEST, and nothing
else changes: the word is latched and its bytes are dropped with it. -/
def Obligations.IllegalWordsAreAnsweredIllegalRequest : Prop :=
  ∀ (s : State) (r : Request) (rest : List Request),
    s.busy = false → s.resetNow = false → s.offers = r :: rest → inOpcodeTable r.word = false →
    step s = .next ({ s with resetLine := s.resetLine.tail, cur := some r, offers := rest }.answeredError
      .illegalRequest)

/-- R243: a request that LIFE does not accept is answered NOT_READY, and nothing else changes: INIT outside
Uninitialized, any other request outside Ready, whatever its operands. -/
def Obligations.NotReadyRefusesAndChangesNothing : Prop :=
  (∀ (l : Life) (i : Instr), accepts l i = true ↔
    ((∃ bw, i = .init bw) ∧ l = .uninitialized) ∨ ((∀ bw, i ≠ .init bw) ∧ l = .ready)) ∧
  (∀ (i : Instr) (s : State), accepts s.life i = false → exec i s = .next (s.answeredError .notReady))

/-- R144, R210, R215, R241: an accepted request with an out-of-range operand is answered its own error before any
micro-op, and nothing else changes. -/
def Obligations.OutOfRangeOperandsAreRefused : Prop :=
  ∀ s : State,
    (s.life = .uninitialized → exec (.init .eightBit) s = .next (s.answeredError .unsupportedBusWidth)) ∧
    (s.life = .ready → ∀ col row : Byte, 15 < col.toNat ∨ 1 < row.toNat →
      exec (.setCursor col row) s = .next (s.answeredError .invalidCursorPos)) ∧
    (s.life = .ready → ∀ addr : Byte, 32 ≤ addr.toNat →
      exec (.setCgramAddr addr) s = .next (s.answeredError .invalidAddr))

/-- R141..R146, R148: INIT FourBit on an Uninitialized engine sets the scoreboard for the power-up and loads its 75
micro-ops, the entry-mode byte being that of ENTRY_MODE; nothing else changes. -/
def Obligations.InitLoadsThePowerOnSequence : Prop :=
  (∀ s : State, s.life = .uninitialized →
    exec (.init .fourBit) s = .next { s with
      settleDebt := 50000, sync := false, hazard := false,
      seq := initOps (entryModeCommand s.entryMode), seqPc := 0 }) ∧
  (∀ em : Byte, (initOps em).length = 75 ∧ pinCount (initOps em) = 67 ∧ waitTotal (initOps em) = 52208 ∧
    (latchedStream (okEvents (initOps em))).length = 10)

/-- R162, R164: COMMAND and WRITE_CHAR on a Ready engine load the byte unit of their byte, RS 0 or RS 1, and no
wait; nothing else changes. -/
def Obligations.CommandAndWriteCharLoadOneByteUnit : Prop :=
  ∀ (s : State) (b : Byte), s.life = .ready →
    exec (.command b) s = .next { s with seq := byteUnitOps false b, seqPc := 0 } ∧
    exec (.writeChar b) s = .next { s with seq := byteUnitOps true b, seqPc := 0 }

/-- R168: PRINT on a Ready engine loads, for k = 0 .. LEN-1, the byte unit of P[k] with RS 1 and then its wait,
320 µs between characters and 1530 µs after the last; nothing else changes. -/
def Obligations.PrintLoadsItsCharactersInOrder : Prop :=
  ∀ (s : State) (payload : List Byte), s.life = .ready →
    exec (.print payload) s = .next { s with seq := printOps payload, seqPc := 0 }

/-- R190, R191, R195, R200: SET_ENTRY_MODE writes ENTRY_MODE at acceptance and loads its command byte and 39 µs;
CLEAR and HOME load 0x01 and 0x02 and 1530 µs; nothing else changes. -/
def Obligations.FixedCommandsLoadTheirByteAndSettle : Prop :=
  ∀ s : State, s.life = .ready →
    (∀ (dir : Direction) (et : Bool), exec (.setEntryMode dir et) s = .next { s with
      entryMode := { dir := dir, et := et },
      seq := byteUnitOps false (entryModeCommand { dir := dir, et := et }) ++ waitOps 39,
      seqPc := 0 }) ∧
    exec .clear s = .next { s with seq := byteUnitOps false 0x01#8 ++ waitOps 1530, seqPc := 0 } ∧
    exec .home s = .next { s with seq := byteUnitOps false 0x02#8 ++ waitOps 1530, seqPc := 0 }

/-- R211, R212, R216: SET_CURSOR with a position on the grid loads the byte 0x80 + row*0x40 + col, and
SET_CGRAM_ADDR with an address below 32 the byte 0x40 + addr, each with 39 µs; nothing else changes. -/
def Obligations.AddressRequestsLoadTheirByteAndSettle : Prop :=
  ∀ s : State, s.life = .ready →
    (∀ col row : Byte, col.toNat ≤ 15 → row.toNat ≤ 1 → exec (.setCursor col row) s = .next { s with
      seq := byteUnitOps false (BitVec.ofNat 8 (0x80 + row.toNat * 0x40 + col.toNat)) ++ waitOps 39,
      seqPc := 0 }) ∧
    (∀ addr : Byte, addr.toNat < 32 → exec (.setCgramAddr addr) s = .next { s with
      seq := byteUnitOps false (BitVec.ofNat 8 (0x40 + addr.toNat)) ++ waitOps 39,
      seqPc := 0 })

/-- R230: DELAY on a Ready engine loads the one wait of its interval, any interval; nothing else changes. -/
def Obligations.DelayLoadsOneWait : Prop :=
  ∀ (s : State) (interval : Interval), s.life = .ready →
    exec (.delay interval) s = .next { s with seq := waitOps interval.toNat, seqPc := 0 }

/-! ### One micro-op -/

/-- R116: a pin write answered ok. The unit-start check, the event, the line's record, the unit-end update and
SEQ_PC as R116 says (with R292, R293, R295 (b) and R146 for the scoreboard); nothing else changes. -/
def Obligations.PinWriteAnsweredOk : Prop :=
  ∀ (s : State) (p : Line) (v : Level) (tag : Tag),
    s.busy = true → s.resetNow = false → s.seq[s.seqPc]? = some (.pin p v tag) → s.pinAnswer = some .ok →
    step s = .next { s.pinAnswered with
      resetLine := s.resetLine.tail
      trace := s.trace ++ [.pinEv p v .ok]
      pinLvl := s.pinLvl.set p (.level v)
      hazard :=
        match tag with
        | .start (.byte _ _) => s.hazard || owes s.settleDebt || !s.sync
        | .start (.resync _ _) => s.hazard || owes s.settleDebt
        | _ => s.hazard
      settleDebt :=
        match tag with
        | .stop (.resync _ _) => 150
        | .stop (.byte false b) => if b = 0x01#8 ∨ b = 0x02#8 ∨ b = 0x03#8 then 1530 else 39
        | .stop (.byte true _) => 320
        | _ => s.settleDebt
      sync :=
        match tag with
        | .stop (.resync _ true) => true
        | .stop (.byte false b) => s.sync && !decide (0x30 ≤ b.toNat ∧ b.toNat ≤ 0x3F)
        | _ => s.sync
      seqPc := s.seqPc + 1 }

/-- R117, R246, R248: a pin write answered `err(e)`, for every e, ends the request with GPIO_ERROR: its line at X,
SYNC cleared inside a unit, the micro-ops dropped, LIFE Failed, ERR_PIN and ERR_INFO written; nothing else changes. -/
def Obligations.PinWriteAnsweredErr : Prop :=
  ∀ (s : State) (p : Line) (v : Level) (tag : Tag) (e : PinErr),
    s.busy = true → s.resetNow = false → s.seq[s.seqPc]? = some (.pin p v tag) → s.pinAnswer = some (.err e) →
    step s = .next { s.pinAnswered with
      resetLine := s.resetLine.tail
      trace := s.trace ++ [.pinEv p v (.err e)]
      pinLvl := s.pinLvl.set p .x
      hazard :=
        match tag with
        | .start (.byte _ _) => s.hazard || owes s.settleDebt || !s.sync
        | .start (.resync _ _) => s.hazard || owes s.settleDebt
        | _ => s.hazard
      sync := if tag = .outside then s.sync else false
      seq := []
      seqPc := 0
      life := .failed
      code := .gpioError
      errPin := some p
      errInfo := some e
      busy := false
      responses := s.responses ++
        [{ code := .gpioError, life := .failed, busy := false, errPin := some p, errInfo := some e }] }

/-- R118: a wait answered ok lowers the debt by d, stopping at 0, and advances; nothing else changes. -/
def Obligations.WaitAnsweredOk : Prop :=
  ∀ (s : State) (d : Nat) (tag : Tag),
    s.busy = true → s.resetNow = false → s.seq[s.seqPc]? = some (.wait d tag) → s.timerAnswer = some .ok →
    step s = .next { s.timerAnswered with
      resetLine := s.resetLine.tail
      trace := s.trace ++ [.waitEv d .ok]
      settleDebt := s.settleDebt - d
      seqPc := s.seqPc + 1 }

/-- R119: a wait answered err ends the request with TIMER_ERROR; no line changes, the debt is not reduced, and SYNC is
cleared only inside a unit. -/
def Obligations.WaitAnsweredErr : Prop :=
  ∀ (s : State) (d : Nat) (tag : Tag),
    s.busy = true → s.resetNow = false → s.seq[s.seqPc]? = some (.wait d tag) → s.timerAnswer = some .err →
    step s = .next { s.timerAnswered with
      resetLine := s.resetLine.tail
      trace := s.trace ++ [.waitEv d .err]
      sync := if tag = .outside then s.sync else false
      seq := []
      seqPc := 0
      life := .failed
      code := .timerError
      errPin := none
      errInfo := none
      busy := false
      responses := s.responses ++
        [{ code := .timerError, life := .failed, busy := false, errPin := none, errInfo := none }] }

/-- R120, R147: at SEQ_PC = len(SEQ) a busy engine ends its request with OK, an empty SEQ at once; INIT's completion
makes LIFE Ready, and no other request writes it. -/
def Obligations.CompletionAnswersOk : Prop :=
  ∀ s : State, s.busy = true → s.resetNow = false → s.seqPc = s.seq.length →
    step s = .next ({ s with
      resetLine := s.resetLine.tail
      life := if servesInit s.cur = true then .ready else s.life }.answeredOk)

/-- R264: a pin port or a timer that never answers leaves the engine stuck: there is no next state. -/
def Obligations.SilentPortsLeaveTheEngineStuck : Prop :=
  ∀ s : State, s.busy = true → s.resetNow = false →
    (∀ (p : Line) (v : Level) (tag : Tag), s.seq[s.seqPc]? = some (.pin p v tag) → s.pinAnswer = none →
      step s = .fault (.pinPortSilent p)) ∧
    (∀ (d : Nat) (tag : Tag), s.seq[s.seqPc]? = some (.wait d tag) → s.timerAnswer = none →
      step s = .fault .timerSilent)

/-- R121, of a busy engine: it is never stuck by its own rules. Where the ports answer, whatever they answer, and no
PRINT is offered without its payload, the step gives a next state. Two clauses are the model's choice and no rule's: an
idle engine without an offer has no step in R121, and steps here to the same state (log entry 8, DEDUCED); and past the
end of a port's script an answer always comes (log entry 1, DESIGN CHOICE). -/
def Obligations.EngineIsNeverStuckByItsOwnRules : Prop :=
  ∀ s : State, none ∉ s.pinScript → none ∉ s.timerScript → s.seqPc ≤ s.seq.length →
    (∀ r ∈ s.offers, decode r ≠ .error .payloadIncomplete) → ∃ t, step s = .next t

/-! ### Whole requests -/

/-- R141..R148, R296: INIT FourBit from Uninitialized, every answer ok: 77 steps give the 75 events of V-S6, LIFE
Ready, the response OK, no settle debt, HAZARD 0 and SYNC 1. -/
def Obligations.InitRunsToReady : Prop :=
  ∀ (s : State) (rest : List Request) (ps : List (Option PinAnswer)) (ts : List (Option TimerAnswer)),
    s.life = .uninitialized → s.Offers (encode (.init .fourBit)) rest 67 8 ps ts →
    steps 77 s = .next ({ s.ranOk (encode (.init .fourBit)) rest
        (initOps (entryModeCommand s.entryMode)) (initEvents (entryModeCommand s.entryMode)) ps ts with
      life := .ready
      pinLvl := busLevels false (entryModeCommand s.entryMode)
      settleDebt := 0
      hazard := false
      sync := true }.answeredOk)

/-- R160..R162, R296: COMMAND on a Ready engine, every answer ok: thirteen pin writes and no wait; the settle debt of
its byte is left; a byte 0x30..0x3F clears SYNC. -/
def Obligations.CommandRunsToOk : Prop :=
  ∀ (s : State) (b : Byte) (rest : List Request) (ps : List (Option PinAnswer)) (ts : List (Option TimerAnswer)),
    s.life = .ready → s.Offers (encode (.command b)) rest 13 0 ps ts →
    steps 15 s = .next ({ s.ranOk (encode (.command b)) rest (byteUnitOps false b)
        (byteEvents false b) ps ts with
      pinLvl := busLevels false b
      settleDebt := if b = 0x01#8 ∨ b = 0x02#8 ∨ b = 0x03#8 then 1530 else 39
      hazard := s.hazardAtByte
      sync := s.sync && !decide (0x30 ≤ b.toNat ∧ b.toNat ≤ 0x3F) }.answeredOk)

/-- R163, R164, R296: WRITE_CHAR on a Ready engine, every answer ok: RS high, high nibble, low nibble, no wait; a
settle debt of 320 µs is left. -/
def Obligations.WriteCharRunsToOk : Prop :=
  ∀ (s : State) (c : Byte) (rest : List Request) (ps : List (Option PinAnswer)) (ts : List (Option TimerAnswer)),
    s.life = .ready → s.Offers (encode (.writeChar c)) rest 13 0 ps ts →
    steps 15 s = .next ({ s.ranOk (encode (.writeChar c)) rest (byteUnitOps true c)
        (byteEvents true c) ps ts with
      pinLvl := busLevels true c
      settleDebt := 320
      hazard := s.hazardAtByte }.answeredOk)

/-- R165..R171, R296: PRINT of any payload the word can carry, on a Ready engine, every answer ok: its characters in
order with their waits; no settle debt is left; only the first character can find one. An empty PRINT answers OK at
once and leaves everything else alone. -/
def Obligations.PrintRunsToOk : Prop :=
  (∀ (s : State) (chars : List Byte) (last : Byte) (rest : List Request) (ps : List (Option PinAnswer))
      (ts : List (Option TimerAnswer)),
    s.life = .ready → (chars ++ [last]).length ≤ 65535 →
    s.Offers (encode (.print (chars ++ [last]))) rest (13 * (chars.length + 1)) (chars.length + 1) ps ts →
    steps (14 * (chars.length + 1) + 2) s =
      .next ({ s.ranOk (encode (.print (chars ++ [last]))) rest (printOps (chars ++ [last]))
          (printEvents (chars ++ [last])) ps ts with
        pinLvl := busLevels true last
        settleDebt := 0
        hazard := s.hazardAtByte }.answeredOk)) ∧
  (∀ (s : State) (rest : List Request) (ps : List (Option PinAnswer)) (ts : List (Option TimerAnswer)),
    s.life = .ready → s.Offers (encode (.print [])) rest 0 0 ps ts →
    steps 2 s = .next ((s.ranOk (encode (.print [])) rest [] [] ps ts).answeredOk))

/-- R190..R192, R296: SET_ENTRY_MODE on a Ready engine, every answer ok: ENTRY_MODE written, its command byte sent,
39 µs waited, no settle debt left. -/
def Obligations.SetEntryModeRunsToOk : Prop :=
  ∀ (s : State) (em : EntryMode) (rest : List Request) (ps : List (Option PinAnswer))
    (ts : List (Option TimerAnswer)),
    s.life = .ready → s.Offers (encode (.setEntryMode em.dir em.et)) rest 13 1 ps ts →
    steps 16 s = .next ({ s.ranOk (encode (.setEntryMode em.dir em.et)) rest
        (byteUnitOps false (entryModeCommand em) ++ waitOps 39)
        (byteEvents false (entryModeCommand em) ++ waitEvents 39) ps ts with
      entryMode := em
      pinLvl := busLevels false (entryModeCommand em)
      settleDebt := 0
      hazard := s.hazardAtByte }.answeredOk)

/-- R195, R200, R296: CLEAR and HOME on a Ready engine, every answer ok: the byte 0x01 or 0x02 with RS low, then
1530 µs; no settle debt is left. -/
def Obligations.ClearAndHomeRunToOk : Prop :=
  ∀ (s : State) (rest : List Request) (ps : List (Option PinAnswer)) (ts : List (Option TimerAnswer)),
    s.life = .ready →
    (s.Offers (encode .clear) rest 13 1 ps ts →
      steps 16 s = .next ({ s.ranOk (encode .clear) rest
          (byteUnitOps false 0x01#8 ++ waitOps 1530) (byteEvents false 0x01#8 ++ waitEvents 1530) ps ts with
        pinLvl := busLevels false 0x01#8
        settleDebt := 0
        hazard := s.hazardAtByte }.answeredOk)) ∧
    (s.Offers (encode .home) rest 13 1 ps ts →
      steps 16 s = .next ({ s.ranOk (encode .home) rest
          (byteUnitOps false 0x02#8 ++ waitOps 1530) (byteEvents false 0x02#8 ++ waitEvents 1530) ps ts with
        pinLvl := busLevels false 0x02#8
        settleDebt := 0
        hazard := s.hazardAtByte }.answeredOk))

/-- R210..R216, R296: SET_CURSOR on the grid and SET_CGRAM_ADDR below 32 on a Ready engine, every answer ok: the
address-set byte with RS low, then 39 µs; no settle debt is left, and no position is kept. -/
def Obligations.AddressRequestsRunToOk : Prop :=
  ∀ (s : State) (rest : List Request) (ps : List (Option PinAnswer)) (ts : List (Option TimerAnswer)),
    s.life = .ready →
    (∀ col row : Byte, col.toNat ≤ 15 → row.toNat ≤ 1 → s.Offers (encode (.setCursor col row)) rest 13 1 ps ts →
      let b : Byte := BitVec.ofNat 8 (0x80 + row.toNat * 0x40 + col.toNat)
      steps 16 s = .next ({ s.ranOk (encode (.setCursor col row)) rest
          (byteUnitOps false b ++ waitOps 39) (byteEvents false b ++ waitEvents 39) ps ts with
        pinLvl := busLevels false b
        settleDebt := 0
        hazard := s.hazardAtByte }.answeredOk)) ∧
    (∀ addr : Byte, addr.toNat < 32 → s.Offers (encode (.setCgramAddr addr)) rest 13 1 ps ts →
      let b : Byte := BitVec.ofNat 8 (0x40 + addr.toNat)
      steps 16 s = .next ({ s.ranOk (encode (.setCgramAddr addr)) rest
          (byteUnitOps false b ++ waitOps 39) (byteEvents false b ++ waitEvents 39) ps ts with
        pinLvl := busLevels false b
        settleDebt := 0
        hazard := s.hazardAtByte }.answeredOk))

/-- R230, R294, R296: DELAY on a Ready engine, the timer answering ok: one wait, no pin write, the debt lowered by the
interval and not below 0. -/
def Obligations.DelayRunsToOk : Prop :=
  ∀ (s : State) (interval : Interval) (rest : List Request) (ps : List (Option PinAnswer))
    (ts : List (Option TimerAnswer)),
    s.life = .ready → s.Offers (encode (.delay interval)) rest 0 1 ps ts →
    steps 3 s = .next ({ s.ranOk (encode (.delay interval)) rest (waitOps interval.toNat)
        (waitEvents interval.toNat) ps ts with
      settleDebt := s.settleDebt - interval.toNat }.answeredOk)

/-- R150, V-S8: INIT from reset whose seventh micro-op, the third write of level 1, answers err(e): the trace, the
response, LIFE and the lines, and the controller has latched nothing. -/
def Obligations.InitFailingOnTheThirdSetHigh : Prop :=
  ∀ e : PinErr,
    let s : State := { State.reset with
      offers := [encode (.init .fourBit)]
      pinScript := List.replicate 5 (some .ok) ++ [some (.err e)]
      timerScript := [some .ok] }
    ∃ t, steps 8 s = .next t ∧
      t.trace = [ .waitEv 50000 .ok, .pinEv .rs false .ok, .pinEv .d4 true .ok, .pinEv .d5 true .ok,
        .pinEv .d6 false .ok, .pinEv .d7 false .ok, .pinEv .en true (.err e) ] ∧
      t.responses = [{ code := .gpioError, life := .failed, busy := false, errPin := some .en, errInfo := some e }] ∧
      t.life = .failed ∧ t.seq = [] ∧ t.settleDebt = 0 ∧ t.hazard = false ∧ t.sync = false ∧
      t.pinLvl =
        { en := .x, rs := .level false, d4 := .level true, d5 := .level true, d6 := .level false,
          d7 := .level false } ∧
      latchedStream t.trace = []

/-! ### Rules of the whole machine -/

/-- R22: the numbers of LIFE and its reset value; LIFE is written by a successful INIT (Ready), by a hardware error
(Failed) and by reset (Uninitialized), by nothing else. -/
def Obligations.LifeIsWrittenOnlyByInitAndHardwareErrors : Prop :=
  (lifeNumber .uninitialized = 0#2 ∧ lifeNumber .ready = 1#2 ∧ lifeNumber .failed = 2#2 ∧
    (∀ l, lifeNumber l ≠ 3#2) ∧ State.reset.life = .uninitialized) ∧
  (∀ s t : State, step s = .next t → t.life ≠ s.life →
    (s.resetNow = false ∧ s.busy = true ∧ s.seqPc = s.seq.length ∧ servesInit s.cur = true ∧ t.life = .ready ∧
      t.code = .ok) ∨
    (s.resetNow = false ∧ s.busy = true ∧ t.life = .failed ∧ (t.code = .gpioError ∨ t.code = .timerError) ∧
      ∃ ev, t.trace = s.trace ++ [ev] ∧ ev.failed = true) ∨
    (s.resetNow = true ∧ t.life = .uninitialized))

/-- R24: ENTRY_MODE is written by an accepted SET_ENTRY_MODE and by reset, by no other request. -/
def Obligations.EntryModeIsWrittenOnlyBySetEntryMode : Prop :=
  ∀ s t : State, s.resetNow = false → step s = .next t → t.entryMode ≠ s.entryMode →
    s.busy = false ∧ s.life = .ready ∧
    ∃ (r : Request) (rest : List Request) (dir : Direction) (et : Bool),
      s.offers = r :: rest ∧ decode r = .ok (.setEntryMode dir et) ∧ t.entryMode = { dir := dir, et := et }

/-- R31, R65: TRACE grows in SEQ order, by the one event that answers SEQ[SEQ_PC], at a step that runs a micro-op and
at no other; PIN_LVL changes at no other step either. -/
def Obligations.TraceGrowsInSeqOrder : Prop :=
  ∀ s t : State, s.resetNow = false → step s = .next t →
    (∀ op, s.busy = true → s.seq[s.seqPc]? = some op →
      ∃ ev, t.trace = s.trace ++ [ev] ∧ op.answeredBy ev = true) ∧
    (s.busy = false ∨ s.seq[s.seqPc]? = none → t.trace = s.trace ∧ t.pinLvl = s.pinLvl)

/-- R32, R33, R80: while a request runs, CUR and the host's offers stay, and a step either advances SEQ_PC by exactly 1
in the same SEQ with STATUS, LIFE and ENTRY_MODE as they were, or ends the request with exactly one response. -/
def Obligations.SeqPcAdvancesByOneUntilTheResponse : Prop :=
  ∀ s t : State, s.busy = true → s.resetNow = false → step s = .next t →
    t.cur = s.cur ∧ t.offers = s.offers ∧ t.entryMode = s.entryMode ∧
    ((t.busy = true ∧ t.seq = s.seq ∧ t.seqPc = s.seqPc + 1 ∧ t.status = s.status ∧ t.responses = s.responses) ∨
     (t.busy = false ∧ t.responses = s.responses ++ [t.status]))

/-- R80, R255: an idle step takes at most one offer; the request it takes is then running, or has been answered with
exactly one response; with no offer nothing changes. -/
def Obligations.IdleStepTakesAtMostOneOffer : Prop :=
  ∀ s t : State, s.busy = false → s.resetNow = false → step s = .next t →
    (s.offers = [] ∧ t = { s with resetLine := s.resetLine.tail }) ∨
    (∃ (r : Request) (rest : List Request), s.offers = r :: rest ∧ t.offers = rest ∧ t.cur = some r ∧
      ((t.busy = true ∧ t.seqPc = 0 ∧ t.responses = s.responses ∧ t.code = s.code ∧ t.life = s.life) ∨
       (t.busy = false ∧ t.seq = [] ∧ t.responses = s.responses ++ [t.status] ∧ t.life = s.life ∧
        t.code ≠ .ok ∧ t.code ≠ .gpioError ∧ t.code ≠ .timerError)))

/-- R35, R146: HAZARD is sticky; only reset clears it, and an INIT accepted in Uninitialized. -/
def Obligations.HazardIsSticky : Prop :=
  ∀ s t : State, s.resetNow = false → step s = .next t → s.hazard = true → t.hazard = false →
    s.busy = false ∧ s.life = .uninitialized ∧
    ∃ (r : Request) (rest : List Request), s.offers = r :: rest ∧ decode r = .ok (.init .fourBit)

/-- R243, R248, R251: Failed lasts until reset. An idle Failed engine stays Failed and idle, emits nothing, writes no
line and no ENTRY_MODE, whatever is offered. -/
def Obligations.FailedLastsUntilReset : Prop :=
  ∀ s t : State, s.life = .failed → s.busy = false → s.resetNow = false → step s = .next t →
    t.life = .failed ∧ t.busy = false ∧ t.trace = s.trace ∧ t.pinLvl = s.pinLvl ∧ t.entryMode = s.entryMode ∧
    t.settleDebt = s.settleDebt ∧ t.hazard = s.hazard ∧ t.sync = s.sync

/-- R34, R35, R36, R111: no engine rule reads the settle scoreboard or the tags. Two states that agree but for them
step alike, to states that agree but for them. -/
def Obligations.NoEngineRuleReadsTheScoreboard : Prop :=
  ∀ s t : State, s.hardwareView = t.hardwareView →
    mapNext State.hardwareView (step s) = mapNext State.hardwareView (step t)

/-! ### Invariants -/

/-- The reset state meets the three invariants below. -/
def Obligations.ResetMeetsTheInvariants : Prop :=
  State.reset.RegistersOk ∧ State.reset.LevelsMatchTrace ∧ State.reset.PulsesOk

/-- R22, R28, R29, R32, R33, R110, R240, R246: every step keeps the invariant of the registers. -/
def Obligations.StepKeepsTheRegisterInvariant : Prop :=
  ∀ s t : State, s.RegistersOk → step s = .next t → t.RegistersOk

/-- R30, R31: every step keeps PIN_LVL equal to what TRACE says of the lines. -/
def Obligations.StepKeepsLevelsMatchingTrace : Prop :=
  ∀ s t : State, s.LevelsMatchTrace → step s = .next t → t.LevelsMatchTrace

/-- R56, R57: every step keeps the pulse invariant: the enable pulses of TRACE bracket stable nibbles, whatever the
ports answer. -/
def Obligations.StepKeepsThePulsesBracketed : Prop :=
  ∀ s t : State, s.PulsesOk → step s = .next t → t.PulsesOk

/-- R56: in a trace whose pulses bracket stable nibbles, every successful EN-low write is a latch event. -/
def Obligations.EverySuccessfulEnLowIsALatchEvent : Prop :=
  ∀ es : List Event, eventsBracketed false es = true →
    (latchedStream es).length = es.countP fun ev => decide (ev = .pinEv .en false .ok)

/-! ### The settle scoreboard -/

/-- R291: the settle classes. -/
def Obligations.SettleClasses : Prop :=
  (∀ (n : Nibble) (last : Bool), settle (.resync n last) = 150) ∧
  (∀ b : Byte, settle (.byte false b) = if b = 0x01#8 ∨ b = 0x02#8 ∨ b = 0x03#8 then 1530 else 39) ∧
  (∀ c : Byte, settle (.byte true c) = 320) ∧
  (∀ b : Byte, 0x30 ≤ b.toNat ∧ b.toNat ≤ 0x3F → settle (.byte false b) = 39)

/-- R7, R149 (d), R171 (e), R296: for every parameter set R7 allows, INIT's own waits cover every settle from its
power-up on, and no other request makes a hazard by itself when it starts with no debt and in sync. -/
def Obligations.NoExpansionMakesAHazardByItself : Prop :=
  ∀ P : Params, P.Legal →
    (∀ em : EntryMode, settled Config.sPowerup false (expandInit P em) = true) ∧
    (∀ b : Byte, settled 0 true (expandCommand P b) = true) ∧
    (∀ c : Byte, settled 0 true (expandWriteChar P c) = true) ∧
    (∀ payload : List Byte, settled 0 true (expandPrint P payload) = true) ∧
    (∀ em : EntryMode, settled 0 true (expandSetEntryMode P em) = true) ∧
    (∀ col row : Byte, settled 0 true (expandSetCursor P col row) = true) ∧
    (∀ addr : Byte, settled 0 true (expandSetCgramAddr P addr) = true) ∧
    settled 0 true (expandClear P) = true ∧ settled 0 true (expandHome P) = true ∧
    (∀ interval : Interval, settled 0 true (expandDelay interval) = true)

/-- R293, R296: a request that is settled when it runs stays so to its end, whatever the ports answer: HAZARD stays 0. -/
def Obligations.SettledRequestsNeverSetHazard : Prop :=
  ∀ s t : State, s.Settled → s.busy = true → step s = .next t → t.Settled

/-- R146, R149 (d), R296: INIT is settled from its acceptance in any state, and every other request from its acceptance
in a state with no debt, in sync and without a hazard. -/
def Obligations.AcceptedRequestsAreSettled : Prop :=
  (∀ s t : State, s.life = .uninitialized → exec (.init .fourBit) s = .next t → t.Settled) ∧
  (∀ (i : Instr) (s t : State), s.life = .ready → s.settleDebt = 0 → s.sync = true → s.hazard = false →
    exec i s = .next t → t.Settled)

/-! ### The bus -/

/-- R113, R114: the byte unit and the re-sync unit are their thirteen and seven pin writes when P_T_PULSE is 0. -/
def Obligations.UnitsAreTheirPinWrites : Prop :=
  ∀ (P : Params) (rs : Level) (b : Byte) (n : Nibble) (last : Bool), P.tPulse = 0 →
    xfer P rs b = byteUnitOps rs b ∧ xferNib P n last = resyncUnitOps n last

/-- R115: the micro-op counts of NIB, XFER_NIB and XFER without and with a pulse wait; XFER makes exactly two latch
events and XFER_NIB one, whatever the lines carried before. -/
def Obligations.UnitCounts : Prop :=
  ∀ (P : Params) (rs : Level) (b : Byte) (n : Nibble) (last : Bool) (u : XferUnit) (high low : Tag),
    (P.tPulse = 0 → (nib P n u high low).length = 6 ∧
      (xferNib P n last).length = 7 ∧ pinCount (xferNib P n last) = 7 ∧
      (xfer P rs b).length = 13 ∧ pinCount (xfer P rs b) = 13) ∧
    (0 < P.tPulse → (nib P n u high low).length = 7 ∧ (xferNib P n last).length = 8 ∧ (xfer P rs b).length = 15) ∧
    (∀ l : PinLevels, (latchedFrom l false (okEvents (xfer P rs b))).length = 2 ∧
      (latchedFrom l false (okEvents (xferNib P n last))).length = 1)

/-- R170: PRINT's micro-op counts without and with a pulse wait, at the largest payload, and its least total wait. -/
def Obligations.PrintCounts : Prop :=
  ∀ (P : Params) (payload : List Byte),
    (P.tPulse = 0 → (expandPrint P payload).length = 14 * payload.length ∧
      pinCount (expandPrint P payload) = 13 * payload.length) ∧
    (0 < P.tPulse → (expandPrint P payload).length = 16 * payload.length ∧
      pinCount (expandPrint P payload) = 13 * payload.length) ∧
    (payload.length = 65535 →
      (P.tPulse = 0 → (expandPrint P payload).length = 917490) ∧
      (0 < P.tPulse → (expandPrint P payload).length = 1048560) ∧
      waitTotal (expandPrint Config.engine payload) = 65534 * 320 + 1530)

/-- R301: the least total wait of each request, in µs, with the default parameters. -/
def Obligations.LeastTotalWaits : Prop :=
  (∀ em : EntryMode, waitTotal (expandInit Config.engine em) = 52208) ∧
  (∀ b : Byte, waitTotal (expandCommand Config.engine b) = 0 ∧ waitTotal (expandWriteChar Config.engine b) = 0) ∧
  (∀ payload : List Byte, payload ≠ [] →
    waitTotal (expandPrint Config.engine payload) = (payload.length - 1) * 320 + 1530) ∧
  waitTotal (expandPrint Config.engine []) = 0 ∧
  (∀ em : EntryMode, waitTotal (expandSetEntryMode Config.engine em) = 39) ∧
  (∀ col row : Byte, waitTotal (expandSetCursor Config.engine col row) = 39) ∧
  (∀ addr : Byte, waitTotal (expandSetCgramAddr Config.engine addr) = 39) ∧
  waitTotal (expandClear Config.engine) = 1530 ∧ waitTotal (expandHome Config.engine) = 1530 ∧
  (∀ interval : Interval, waitTotal (expandDelay interval) = interval.toNat)

/-- R53, R54, R55, R57: a byte unit latches its high nibble and then its low nibble, bit i of a nibble on line D(4+i),
RS the byte's kind at both, whatever the lines carried before. -/
def Obligations.ByteUnitsLatchHighNibbleFirst : Prop :=
  ∀ (l : PinLevels) (rs : Level) (b : Byte),
    latchedFrom l false (byteEvents rs b) =
      [ { rs := .level rs, d7 := .level (b.getLsbD 7), d6 := .level (b.getLsbD 6), d5 := .level (b.getLsbD 5),
          d4 := .level (b.getLsbD 4) },
        { rs := .level rs, d7 := .level (b.getLsbD 3), d6 := .level (b.getLsbD 2), d5 := .level (b.getLsbD 1),
          d4 := .level (b.getLsbD 0) } ]

/-- R58, R172: the events of a PRINT deliver exactly its bytes, as characters, in order, whatever came before. -/
def Obligations.PrintDeliversItsBytesInOrder : Prop :=
  ∀ (r : Reading) (payload : List Byte), deliveredFrom r (printEvents payload) = payload.map (Delivery.byte true)

/-- R58, R148: the events of INIT deliver the re-sync nibbles 3, 3, 3, 2 and the bytes 0x0C, 0x01 and the entry mode. -/
def Obligations.InitDeliversResyncThenThreeBytes : Prop :=
  ∀ em : Byte, deliveredStream (initEvents em) =
    [ .resync 0x3#4, .resync 0x3#4, .resync 0x3#4, .resync 0x2#4, .byte false 0x0C#8, .byte false 0x01#8,
      .byte false em ]

/-! ### Command bytes -/

/-- R192: the four words of SET_ENTRY_MODE and their command bytes. -/
def Obligations.EntryModeCommandBytes : Prop :=
  (encodeWord (.setEntryMode .leftToRight false) = 0x50000000#32 ∧ entryModeByte ⟨.leftToRight, false⟩ = 0x04#8) ∧
  (encodeWord (.setEntryMode .leftToRight true) = 0x50000001#32 ∧ entryModeByte ⟨.leftToRight, true⟩ = 0x05#8) ∧
  (encodeWord (.setEntryMode .rightToLeft false) = 0x50000002#32 ∧ entryModeByte ⟨.rightToLeft, false⟩ = 0x06#8) ∧
  (encodeWord (.setEntryMode .rightToLeft true) = 0x50000003#32 ∧ entryModeByte ⟨.rightToLeft, true⟩ = 0x07#8)

/-- R213: the command bytes of every valid position, and the corner cases, those that raise among them. -/
def Obligations.CursorCommandBytes : Prop :=
  (∀ col : Byte, col.toNat ≤ 15 →
    (cursorByte Config.engine col 0#8).toNat = 0x80 + col.toNat ∧
    (cursorByte Config.engine col 1#8).toNat = 0xC0 + col.toNat) ∧
  cursorByte Config.engine 0#8 0#8 = 0x80#8 ∧ cursorByte Config.engine 15#8 0#8 = 0x8F#8 ∧
  cursorByte Config.engine 0#8 1#8 = 0xC0#8 ∧ cursorByte Config.engine 15#8 1#8 = 0xCF#8 ∧
  (∀ s : State, s.life = .ready →
    (∀ col row : Byte, 15 < col.toNat ∨ 1 < row.toNat →
      exec (.setCursor col row) s = .next (s.answeredError .invalidCursorPos)) ∧
    exec (.setCursor 16#8 0#8) s = .next (s.answeredError .invalidCursorPos) ∧
    exec (.setCursor 0#8 2#8) s = .next (s.answeredError .invalidCursorPos) ∧
    exec (.setCursor 255#8 255#8) s = .next (s.answeredError .invalidCursorPos)) ∧
  (∀ (s : State) (col row : Byte), s.life = .failed →
    exec (.setCursor col row) s = .next (s.answeredError .notReady))

/-- R216, R217: the CGRAM command byte is 0x40 + ADDR below 32, with its corners; 32 and 255 raise INVALID_ADDR; COMMAND
sends 0x60..0x7F without a check. -/
def Obligations.CgramCommandBytes : Prop :=
  (∀ addr : Byte, addr.toNat < 32 → (cgramByte addr).toNat = 0x40 + addr.toNat) ∧
  cgramByte 0#8 = 0x40#8 ∧ cgramByte 31#8 = 0x5F#8 ∧
  (∀ s : State, s.life = .ready →
    exec (.setCgramAddr 32#8) s = .next (s.answeredError .invalidAddr) ∧
    exec (.setCgramAddr 255#8) s = .next (s.answeredError .invalidAddr) ∧
    (∀ b : Byte, 0x60 ≤ b.toNat ∧ b.toNat ≤ 0x7F →
      exec (.command b) s = .next { s with seq := byteUnitOps false b, seqPc := 0 }))
end

