-- ==== Sys2Proof/Laws/Config.lean ====
section
/-! SUPPORT. The engine's parameters, one lemma a parameter (R6), and that the set is one R7 allows. -/

namespace Sys2Proof

@[simp] theorem Config.engine_cols : Config.engine.cols = 16 := rfl
@[simp] theorem Config.engine_rows : Config.engine.rows = 2 := rfl
@[simp] theorem Config.engine_rowBase0 : Config.engine.rowBase0 = 0x00#8 := rfl
@[simp] theorem Config.engine_rowBase1 : Config.engine.rowBase1 = 0x40#8 := rfl
@[simp] theorem Config.engine_cgramLimit : Config.engine.cgramLimit = 32 := rfl
@[simp] theorem Config.engine_tPowerup : Config.engine.tPowerup = 50000 := rfl
@[simp] theorem Config.engine_tResync : Config.engine.tResync = 150 := rfl
@[simp] theorem Config.engine_tShort : Config.engine.tShort = 39 := rfl
@[simp] theorem Config.engine_tLong : Config.engine.tLong = 1530 := rfl
@[simp] theorem Config.engine_tChar : Config.engine.tChar = 320 := rfl
@[simp] theorem Config.engine_tTail : Config.engine.tTail = 1530 := rfl
@[simp] theorem Config.engine_tPulse : Config.engine.tPulse = 0 := rfl
@[simp] theorem Config.engine_resync : Config.engine.resync = [0x3#4, 0x3#4, 0x3#4, 0x2#4] := rfl
@[simp] theorem Config.engine_initDisplay : Config.engine.initDisplay = 0x0C#8 := rfl
@[simp] theorem Config.engine_entryReset : Config.engine.entryReset = { dir := .rightToLeft, et := false } := rfl

/-- The engine's parameters are a set R7 allows. -/
theorem Config.engine_legal : Config.engine.Legal where
  powerup := by decide
  resync := by decide
  short := by decide
  long := by decide
  char := by decide
  tail := by decide
  pulse := by decide
  cols := rfl
  rows := rfl
  rowBase := ⟨rfl, rfl⟩
  cgramLimit := rfl
  pattern := rfl
  initDisplay := rfl

end Sys2Proof
end

