-- ==== Sys2Proof/Laws/State.lean ====
section
/-! SUPPORT. One lemma a field for every update of the state, so that no proof unfolds a record update. -/

namespace Sys2Proof.Machine

/-! ### `State.setPin` -/

@[simp] theorem State.setPin_life (s : State) (p : Line) (v : Shadow) :
    (s.setPin p v).life = s.life := rfl
@[simp] theorem State.setPin_entryMode (s : State) (p : Line) (v : Shadow) :
    (s.setPin p v).entryMode = s.entryMode := rfl
@[simp] theorem State.setPin_code (s : State) (p : Line) (v : Shadow) :
    (s.setPin p v).code = s.code := rfl
@[simp] theorem State.setPin_busy (s : State) (p : Line) (v : Shadow) :
    (s.setPin p v).busy = s.busy := rfl
@[simp] theorem State.setPin_errPin (s : State) (p : Line) (v : Shadow) :
    (s.setPin p v).errPin = s.errPin := rfl
@[simp] theorem State.setPin_errInfo (s : State) (p : Line) (v : Shadow) :
    (s.setPin p v).errInfo = s.errInfo := rfl
@[simp] theorem State.setPin_cur (s : State) (p : Line) (v : Shadow) :
    (s.setPin p v).cur = s.cur := rfl
@[simp] theorem State.setPin_seq (s : State) (p : Line) (v : Shadow) :
    (s.setPin p v).seq = s.seq := rfl
@[simp] theorem State.setPin_seqPc (s : State) (p : Line) (v : Shadow) :
    (s.setPin p v).seqPc = s.seqPc := rfl
@[simp] theorem State.setPin_pinLvl (s : State) (p : Line) (v : Shadow) :
    (s.setPin p v).pinLvl = s.pinLvl.set p v := rfl
@[simp] theorem State.setPin_trace (s : State) (p : Line) (v : Shadow) :
    (s.setPin p v).trace = s.trace := rfl
@[simp] theorem State.setPin_settleDebt (s : State) (p : Line) (v : Shadow) :
    (s.setPin p v).settleDebt = s.settleDebt := rfl
@[simp] theorem State.setPin_hazard (s : State) (p : Line) (v : Shadow) :
    (s.setPin p v).hazard = s.hazard := rfl
@[simp] theorem State.setPin_sync (s : State) (p : Line) (v : Shadow) :
    (s.setPin p v).sync = s.sync := rfl
@[simp] theorem State.setPin_offers (s : State) (p : Line) (v : Shadow) :
    (s.setPin p v).offers = s.offers := rfl
@[simp] theorem State.setPin_responses (s : State) (p : Line) (v : Shadow) :
    (s.setPin p v).responses = s.responses := rfl
@[simp] theorem State.setPin_resetLine (s : State) (p : Line) (v : Shadow) :
    (s.setPin p v).resetLine = s.resetLine := rfl
@[simp] theorem State.setPin_pinScript (s : State) (p : Line) (v : Shadow) :
    (s.setPin p v).pinScript = s.pinScript := rfl
@[simp] theorem State.setPin_timerScript (s : State) (p : Line) (v : Shadow) :
    (s.setPin p v).timerScript = s.timerScript := rfl
@[simp] theorem State.setPin_draws (s : State) (p : Line) (v : Shadow) :
    (s.setPin p v).draws = s.draws := rfl

/-! ### `State.emit` -/

@[simp] theorem State.emit_life (s : State) (ev : Event) :
    (s.emit ev).life = s.life := rfl
@[simp] theorem State.emit_entryMode (s : State) (ev : Event) :
    (s.emit ev).entryMode = s.entryMode := rfl
@[simp] theorem State.emit_code (s : State) (ev : Event) :
    (s.emit ev).code = s.code := rfl
@[simp] theorem State.emit_busy (s : State) (ev : Event) :
    (s.emit ev).busy = s.busy := rfl
@[simp] theorem State.emit_errPin (s : State) (ev : Event) :
    (s.emit ev).errPin = s.errPin := rfl
@[simp] theorem State.emit_errInfo (s : State) (ev : Event) :
    (s.emit ev).errInfo = s.errInfo := rfl
@[simp] theorem State.emit_cur (s : State) (ev : Event) :
    (s.emit ev).cur = s.cur := rfl
@[simp] theorem State.emit_seq (s : State) (ev : Event) :
    (s.emit ev).seq = s.seq := rfl
@[simp] theorem State.emit_seqPc (s : State) (ev : Event) :
    (s.emit ev).seqPc = s.seqPc := rfl
@[simp] theorem State.emit_pinLvl (s : State) (ev : Event) :
    (s.emit ev).pinLvl = s.pinLvl := rfl
@[simp] theorem State.emit_trace (s : State) (ev : Event) :
    (s.emit ev).trace = s.trace ++ [ev] := rfl
@[simp] theorem State.emit_settleDebt (s : State) (ev : Event) :
    (s.emit ev).settleDebt = s.settleDebt := rfl
@[simp] theorem State.emit_hazard (s : State) (ev : Event) :
    (s.emit ev).hazard = s.hazard := rfl
@[simp] theorem State.emit_sync (s : State) (ev : Event) :
    (s.emit ev).sync = s.sync := rfl
@[simp] theorem State.emit_offers (s : State) (ev : Event) :
    (s.emit ev).offers = s.offers := rfl
@[simp] theorem State.emit_responses (s : State) (ev : Event) :
    (s.emit ev).responses = s.responses := rfl
@[simp] theorem State.emit_resetLine (s : State) (ev : Event) :
    (s.emit ev).resetLine = s.resetLine := rfl
@[simp] theorem State.emit_pinScript (s : State) (ev : Event) :
    (s.emit ev).pinScript = s.pinScript := rfl
@[simp] theorem State.emit_timerScript (s : State) (ev : Event) :
    (s.emit ev).timerScript = s.timerScript := rfl
@[simp] theorem State.emit_draws (s : State) (ev : Event) :
    (s.emit ev).draws = s.draws := rfl

/-! ### `State.advance` -/

@[simp] theorem State.advance_life (s : State) :
    (s.advance).life = s.life := rfl
@[simp] theorem State.advance_entryMode (s : State) :
    (s.advance).entryMode = s.entryMode := rfl
@[simp] theorem State.advance_code (s : State) :
    (s.advance).code = s.code := rfl
@[simp] theorem State.advance_busy (s : State) :
    (s.advance).busy = s.busy := rfl
@[simp] theorem State.advance_errPin (s : State) :
    (s.advance).errPin = s.errPin := rfl
@[simp] theorem State.advance_errInfo (s : State) :
    (s.advance).errInfo = s.errInfo := rfl
@[simp] theorem State.advance_cur (s : State) :
    (s.advance).cur = s.cur := rfl
@[simp] theorem State.advance_seq (s : State) :
    (s.advance).seq = s.seq := rfl
@[simp] theorem State.advance_seqPc (s : State) :
    (s.advance).seqPc = s.seqPc + 1 := rfl
@[simp] theorem State.advance_pinLvl (s : State) :
    (s.advance).pinLvl = s.pinLvl := rfl
@[simp] theorem State.advance_trace (s : State) :
    (s.advance).trace = s.trace := rfl
@[simp] theorem State.advance_settleDebt (s : State) :
    (s.advance).settleDebt = s.settleDebt := rfl
@[simp] theorem State.advance_hazard (s : State) :
    (s.advance).hazard = s.hazard := rfl
@[simp] theorem State.advance_sync (s : State) :
    (s.advance).sync = s.sync := rfl
@[simp] theorem State.advance_offers (s : State) :
    (s.advance).offers = s.offers := rfl
@[simp] theorem State.advance_responses (s : State) :
    (s.advance).responses = s.responses := rfl
@[simp] theorem State.advance_resetLine (s : State) :
    (s.advance).resetLine = s.resetLine := rfl
@[simp] theorem State.advance_pinScript (s : State) :
    (s.advance).pinScript = s.pinScript := rfl
@[simp] theorem State.advance_timerScript (s : State) :
    (s.advance).timerScript = s.timerScript := rfl
@[simp] theorem State.advance_draws (s : State) :
    (s.advance).draws = s.draws := rfl

/-! ### `State.credit` -/

@[simp] theorem State.credit_life (s : State) (d : Nat) :
    (s.credit d).life = s.life := rfl
@[simp] theorem State.credit_entryMode (s : State) (d : Nat) :
    (s.credit d).entryMode = s.entryMode := rfl
@[simp] theorem State.credit_code (s : State) (d : Nat) :
    (s.credit d).code = s.code := rfl
@[simp] theorem State.credit_busy (s : State) (d : Nat) :
    (s.credit d).busy = s.busy := rfl
@[simp] theorem State.credit_errPin (s : State) (d : Nat) :
    (s.credit d).errPin = s.errPin := rfl
@[simp] theorem State.credit_errInfo (s : State) (d : Nat) :
    (s.credit d).errInfo = s.errInfo := rfl
@[simp] theorem State.credit_cur (s : State) (d : Nat) :
    (s.credit d).cur = s.cur := rfl
@[simp] theorem State.credit_seq (s : State) (d : Nat) :
    (s.credit d).seq = s.seq := rfl
@[simp] theorem State.credit_seqPc (s : State) (d : Nat) :
    (s.credit d).seqPc = s.seqPc := rfl
@[simp] theorem State.credit_pinLvl (s : State) (d : Nat) :
    (s.credit d).pinLvl = s.pinLvl := rfl
@[simp] theorem State.credit_trace (s : State) (d : Nat) :
    (s.credit d).trace = s.trace := rfl
@[simp] theorem State.credit_settleDebt (s : State) (d : Nat) :
    (s.credit d).settleDebt = s.settleDebt - d := rfl
@[simp] theorem State.credit_hazard (s : State) (d : Nat) :
    (s.credit d).hazard = s.hazard := rfl
@[simp] theorem State.credit_sync (s : State) (d : Nat) :
    (s.credit d).sync = s.sync := rfl
@[simp] theorem State.credit_offers (s : State) (d : Nat) :
    (s.credit d).offers = s.offers := rfl
@[simp] theorem State.credit_responses (s : State) (d : Nat) :
    (s.credit d).responses = s.responses := rfl
@[simp] theorem State.credit_resetLine (s : State) (d : Nat) :
    (s.credit d).resetLine = s.resetLine := rfl
@[simp] theorem State.credit_pinScript (s : State) (d : Nat) :
    (s.credit d).pinScript = s.pinScript := rfl
@[simp] theorem State.credit_timerScript (s : State) (d : Nat) :
    (s.credit d).timerScript = s.timerScript := rfl
@[simp] theorem State.credit_draws (s : State) (d : Nat) :
    (s.credit d).draws = s.draws := rfl

/-! ### `State.respond` -/

@[simp] theorem State.respond_life (s : State) (c : Code) (p : Option Line) (e : Option PinErr) :
    (s.respond c p e).life = s.life := rfl
@[simp] theorem State.respond_entryMode (s : State) (c : Code) (p : Option Line) (e : Option PinErr) :
    (s.respond c p e).entryMode = s.entryMode := rfl
@[simp] theorem State.respond_code (s : State) (c : Code) (p : Option Line) (e : Option PinErr) :
    (s.respond c p e).code = c := rfl
@[simp] theorem State.respond_busy (s : State) (c : Code) (p : Option Line) (e : Option PinErr) :
    (s.respond c p e).busy = false := rfl
@[simp] theorem State.respond_errPin (s : State) (c : Code) (p : Option Line) (e : Option PinErr) :
    (s.respond c p e).errPin = p := rfl
@[simp] theorem State.respond_errInfo (s : State) (c : Code) (p : Option Line) (e : Option PinErr) :
    (s.respond c p e).errInfo = e := rfl
@[simp] theorem State.respond_cur (s : State) (c : Code) (p : Option Line) (e : Option PinErr) :
    (s.respond c p e).cur = s.cur := rfl
@[simp] theorem State.respond_seq (s : State) (c : Code) (p : Option Line) (e : Option PinErr) :
    (s.respond c p e).seq = s.seq := rfl
@[simp] theorem State.respond_seqPc (s : State) (c : Code) (p : Option Line) (e : Option PinErr) :
    (s.respond c p e).seqPc = s.seqPc := rfl
@[simp] theorem State.respond_pinLvl (s : State) (c : Code) (p : Option Line) (e : Option PinErr) :
    (s.respond c p e).pinLvl = s.pinLvl := rfl
@[simp] theorem State.respond_trace (s : State) (c : Code) (p : Option Line) (e : Option PinErr) :
    (s.respond c p e).trace = s.trace := rfl
@[simp] theorem State.respond_settleDebt (s : State) (c : Code) (p : Option Line) (e : Option PinErr) :
    (s.respond c p e).settleDebt = s.settleDebt := rfl
@[simp] theorem State.respond_hazard (s : State) (c : Code) (p : Option Line) (e : Option PinErr) :
    (s.respond c p e).hazard = s.hazard := rfl
@[simp] theorem State.respond_sync (s : State) (c : Code) (p : Option Line) (e : Option PinErr) :
    (s.respond c p e).sync = s.sync := rfl
@[simp] theorem State.respond_offers (s : State) (c : Code) (p : Option Line) (e : Option PinErr) :
    (s.respond c p e).offers = s.offers := rfl
@[simp] theorem State.respond_responses (s : State) (c : Code) (p : Option Line) (e : Option PinErr) :
    (s.respond c p e).responses = s.responses ++ [{ code := c, life := s.life, busy := false, errPin := p, errInfo := e }] := rfl
@[simp] theorem State.respond_resetLine (s : State) (c : Code) (p : Option Line) (e : Option PinErr) :
    (s.respond c p e).resetLine = s.resetLine := rfl
@[simp] theorem State.respond_pinScript (s : State) (c : Code) (p : Option Line) (e : Option PinErr) :
    (s.respond c p e).pinScript = s.pinScript := rfl
@[simp] theorem State.respond_timerScript (s : State) (c : Code) (p : Option Line) (e : Option PinErr) :
    (s.respond c p e).timerScript = s.timerScript := rfl
@[simp] theorem State.respond_draws (s : State) (c : Code) (p : Option Line) (e : Option PinErr) :
    (s.respond c p e).draws = s.draws := rfl

/-! ### `State.raise` -/

@[simp] theorem State.raise_life (s : State) (c : Cause) :
    (s.raise c).life = c.life s.life := rfl
@[simp] theorem State.raise_entryMode (s : State) (c : Cause) :
    (s.raise c).entryMode = s.entryMode := rfl
@[simp] theorem State.raise_code (s : State) (c : Cause) :
    (s.raise c).code = c.code := rfl
@[simp] theorem State.raise_busy (s : State) (c : Cause) :
    (s.raise c).busy = false := rfl
@[simp] theorem State.raise_errPin (s : State) (c : Cause) :
    (s.raise c).errPin = c.pin := rfl
@[simp] theorem State.raise_errInfo (s : State) (c : Cause) :
    (s.raise c).errInfo = c.info := rfl
@[simp] theorem State.raise_cur (s : State) (c : Cause) :
    (s.raise c).cur = s.cur := rfl
@[simp] theorem State.raise_seq (s : State) (c : Cause) :
    (s.raise c).seq = [] := rfl
@[simp] theorem State.raise_seqPc (s : State) (c : Cause) :
    (s.raise c).seqPc = 0 := rfl
@[simp] theorem State.raise_pinLvl (s : State) (c : Cause) :
    (s.raise c).pinLvl = s.pinLvl := rfl
@[simp] theorem State.raise_trace (s : State) (c : Cause) :
    (s.raise c).trace = s.trace := rfl
@[simp] theorem State.raise_settleDebt (s : State) (c : Cause) :
    (s.raise c).settleDebt = s.settleDebt := rfl
@[simp] theorem State.raise_hazard (s : State) (c : Cause) :
    (s.raise c).hazard = s.hazard := rfl
@[simp] theorem State.raise_sync (s : State) (c : Cause) :
    (s.raise c).sync = s.sync := rfl
@[simp] theorem State.raise_offers (s : State) (c : Cause) :
    (s.raise c).offers = s.offers := rfl
@[simp] theorem State.raise_responses (s : State) (c : Cause) :
    (s.raise c).responses = s.responses ++ [{ code := c.code, life := c.life s.life, busy := false, errPin := c.pin, errInfo := c.info }] := rfl
@[simp] theorem State.raise_resetLine (s : State) (c : Cause) :
    (s.raise c).resetLine = s.resetLine := rfl
@[simp] theorem State.raise_pinScript (s : State) (c : Cause) :
    (s.raise c).pinScript = s.pinScript := rfl
@[simp] theorem State.raise_timerScript (s : State) (c : Cause) :
    (s.raise c).timerScript = s.timerScript := rfl
@[simp] theorem State.raise_draws (s : State) (c : Cause) :
    (s.raise c).draws = s.draws := rfl

/-! ### `State.latch` -/

@[simp] theorem State.latch_life (s : State) (r : Request) (rest : List Request) :
    (s.latch r rest).life = s.life := rfl
@[simp] theorem State.latch_entryMode (s : State) (r : Request) (rest : List Request) :
    (s.latch r rest).entryMode = s.entryMode := rfl
@[simp] theorem State.latch_code (s : State) (r : Request) (rest : List Request) :
    (s.latch r rest).code = s.code := rfl
@[simp] theorem State.latch_busy (s : State) (r : Request) (rest : List Request) :
    (s.latch r rest).busy = true := rfl
@[simp] theorem State.latch_errPin (s : State) (r : Request) (rest : List Request) :
    (s.latch r rest).errPin = s.errPin := rfl
@[simp] theorem State.latch_errInfo (s : State) (r : Request) (rest : List Request) :
    (s.latch r rest).errInfo = s.errInfo := rfl
@[simp] theorem State.latch_cur (s : State) (r : Request) (rest : List Request) :
    (s.latch r rest).cur = some r := rfl
@[simp] theorem State.latch_seq (s : State) (r : Request) (rest : List Request) :
    (s.latch r rest).seq = s.seq := rfl
@[simp] theorem State.latch_seqPc (s : State) (r : Request) (rest : List Request) :
    (s.latch r rest).seqPc = s.seqPc := rfl
@[simp] theorem State.latch_pinLvl (s : State) (r : Request) (rest : List Request) :
    (s.latch r rest).pinLvl = s.pinLvl := rfl
@[simp] theorem State.latch_trace (s : State) (r : Request) (rest : List Request) :
    (s.latch r rest).trace = s.trace := rfl
@[simp] theorem State.latch_settleDebt (s : State) (r : Request) (rest : List Request) :
    (s.latch r rest).settleDebt = s.settleDebt := rfl
@[simp] theorem State.latch_hazard (s : State) (r : Request) (rest : List Request) :
    (s.latch r rest).hazard = s.hazard := rfl
@[simp] theorem State.latch_sync (s : State) (r : Request) (rest : List Request) :
    (s.latch r rest).sync = s.sync := rfl
@[simp] theorem State.latch_offers (s : State) (r : Request) (rest : List Request) :
    (s.latch r rest).offers = rest := rfl
@[simp] theorem State.latch_responses (s : State) (r : Request) (rest : List Request) :
    (s.latch r rest).responses = s.responses := rfl
@[simp] theorem State.latch_resetLine (s : State) (r : Request) (rest : List Request) :
    (s.latch r rest).resetLine = s.resetLine := rfl
@[simp] theorem State.latch_pinScript (s : State) (r : Request) (rest : List Request) :
    (s.latch r rest).pinScript = s.pinScript := rfl
@[simp] theorem State.latch_timerScript (s : State) (r : Request) (rest : List Request) :
    (s.latch r rest).timerScript = s.timerScript := rfl
@[simp] theorem State.latch_draws (s : State) (r : Request) (rest : List Request) :
    (s.latch r rest).draws = s.draws := rfl

/-! ### `State.load` -/

@[simp] theorem State.load_life (s : State) (ops : List MicroOp) :
    (s.load ops).life = s.life := rfl
@[simp] theorem State.load_entryMode (s : State) (ops : List MicroOp) :
    (s.load ops).entryMode = s.entryMode := rfl
@[simp] theorem State.load_code (s : State) (ops : List MicroOp) :
    (s.load ops).code = s.code := rfl
@[simp] theorem State.load_busy (s : State) (ops : List MicroOp) :
    (s.load ops).busy = s.busy := rfl
@[simp] theorem State.load_errPin (s : State) (ops : List MicroOp) :
    (s.load ops).errPin = s.errPin := rfl
@[simp] theorem State.load_errInfo (s : State) (ops : List MicroOp) :
    (s.load ops).errInfo = s.errInfo := rfl
@[simp] theorem State.load_cur (s : State) (ops : List MicroOp) :
    (s.load ops).cur = s.cur := rfl
@[simp] theorem State.load_seq (s : State) (ops : List MicroOp) :
    (s.load ops).seq = ops := rfl
@[simp] theorem State.load_seqPc (s : State) (ops : List MicroOp) :
    (s.load ops).seqPc = 0 := rfl
@[simp] theorem State.load_pinLvl (s : State) (ops : List MicroOp) :
    (s.load ops).pinLvl = s.pinLvl := rfl
@[simp] theorem State.load_trace (s : State) (ops : List MicroOp) :
    (s.load ops).trace = s.trace := rfl
@[simp] theorem State.load_settleDebt (s : State) (ops : List MicroOp) :
    (s.load ops).settleDebt = s.settleDebt := rfl
@[simp] theorem State.load_hazard (s : State) (ops : List MicroOp) :
    (s.load ops).hazard = s.hazard := rfl
@[simp] theorem State.load_sync (s : State) (ops : List MicroOp) :
    (s.load ops).sync = s.sync := rfl
@[simp] theorem State.load_offers (s : State) (ops : List MicroOp) :
    (s.load ops).offers = s.offers := rfl
@[simp] theorem State.load_responses (s : State) (ops : List MicroOp) :
    (s.load ops).responses = s.responses := rfl
@[simp] theorem State.load_resetLine (s : State) (ops : List MicroOp) :
    (s.load ops).resetLine = s.resetLine := rfl
@[simp] theorem State.load_pinScript (s : State) (ops : List MicroOp) :
    (s.load ops).pinScript = s.pinScript := rfl
@[simp] theorem State.load_timerScript (s : State) (ops : List MicroOp) :
    (s.load ops).timerScript = s.timerScript := rfl
@[simp] theorem State.load_draws (s : State) (ops : List MicroOp) :
    (s.load ops).draws = s.draws := rfl

/-! ### `State.powerUp` -/

@[simp] theorem State.powerUp_life (s : State) :
    (s.powerUp).life = s.life := rfl
@[simp] theorem State.powerUp_entryMode (s : State) :
    (s.powerUp).entryMode = s.entryMode := rfl
@[simp] theorem State.powerUp_code (s : State) :
    (s.powerUp).code = s.code := rfl
@[simp] theorem State.powerUp_busy (s : State) :
    (s.powerUp).busy = s.busy := rfl
@[simp] theorem State.powerUp_errPin (s : State) :
    (s.powerUp).errPin = s.errPin := rfl
@[simp] theorem State.powerUp_errInfo (s : State) :
    (s.powerUp).errInfo = s.errInfo := rfl
@[simp] theorem State.powerUp_cur (s : State) :
    (s.powerUp).cur = s.cur := rfl
@[simp] theorem State.powerUp_seq (s : State) :
    (s.powerUp).seq = s.seq := rfl
@[simp] theorem State.powerUp_seqPc (s : State) :
    (s.powerUp).seqPc = s.seqPc := rfl
@[simp] theorem State.powerUp_pinLvl (s : State) :
    (s.powerUp).pinLvl = s.pinLvl := rfl
@[simp] theorem State.powerUp_trace (s : State) :
    (s.powerUp).trace = s.trace := rfl
@[simp] theorem State.powerUp_settleDebt (s : State) :
    (s.powerUp).settleDebt = Config.sPowerup := rfl
@[simp] theorem State.powerUp_hazard (s : State) :
    (s.powerUp).hazard = false := rfl
@[simp] theorem State.powerUp_sync (s : State) :
    (s.powerUp).sync = false := rfl
@[simp] theorem State.powerUp_offers (s : State) :
    (s.powerUp).offers = s.offers := rfl
@[simp] theorem State.powerUp_responses (s : State) :
    (s.powerUp).responses = s.responses := rfl
@[simp] theorem State.powerUp_resetLine (s : State) :
    (s.powerUp).resetLine = s.resetLine := rfl
@[simp] theorem State.powerUp_pinScript (s : State) :
    (s.powerUp).pinScript = s.pinScript := rfl
@[simp] theorem State.powerUp_timerScript (s : State) :
    (s.powerUp).timerScript = s.timerScript := rfl
@[simp] theorem State.powerUp_draws (s : State) :
    (s.powerUp).draws = s.draws := rfl

/-! ### `State.setEntryMode` -/

@[simp] theorem State.setEntryMode_life (s : State) (em : EntryMode) :
    (s.setEntryMode em).life = s.life := rfl
@[simp] theorem State.setEntryMode_entryMode (s : State) (em : EntryMode) :
    (s.setEntryMode em).entryMode = em := rfl
@[simp] theorem State.setEntryMode_code (s : State) (em : EntryMode) :
    (s.setEntryMode em).code = s.code := rfl
@[simp] theorem State.setEntryMode_busy (s : State) (em : EntryMode) :
    (s.setEntryMode em).busy = s.busy := rfl
@[simp] theorem State.setEntryMode_errPin (s : State) (em : EntryMode) :
    (s.setEntryMode em).errPin = s.errPin := rfl
@[simp] theorem State.setEntryMode_errInfo (s : State) (em : EntryMode) :
    (s.setEntryMode em).errInfo = s.errInfo := rfl
@[simp] theorem State.setEntryMode_cur (s : State) (em : EntryMode) :
    (s.setEntryMode em).cur = s.cur := rfl
@[simp] theorem State.setEntryMode_seq (s : State) (em : EntryMode) :
    (s.setEntryMode em).seq = s.seq := rfl
@[simp] theorem State.setEntryMode_seqPc (s : State) (em : EntryMode) :
    (s.setEntryMode em).seqPc = s.seqPc := rfl
@[simp] theorem State.setEntryMode_pinLvl (s : State) (em : EntryMode) :
    (s.setEntryMode em).pinLvl = s.pinLvl := rfl
@[simp] theorem State.setEntryMode_trace (s : State) (em : EntryMode) :
    (s.setEntryMode em).trace = s.trace := rfl
@[simp] theorem State.setEntryMode_settleDebt (s : State) (em : EntryMode) :
    (s.setEntryMode em).settleDebt = s.settleDebt := rfl
@[simp] theorem State.setEntryMode_hazard (s : State) (em : EntryMode) :
    (s.setEntryMode em).hazard = s.hazard := rfl
@[simp] theorem State.setEntryMode_sync (s : State) (em : EntryMode) :
    (s.setEntryMode em).sync = s.sync := rfl
@[simp] theorem State.setEntryMode_offers (s : State) (em : EntryMode) :
    (s.setEntryMode em).offers = s.offers := rfl
@[simp] theorem State.setEntryMode_responses (s : State) (em : EntryMode) :
    (s.setEntryMode em).responses = s.responses := rfl
@[simp] theorem State.setEntryMode_resetLine (s : State) (em : EntryMode) :
    (s.setEntryMode em).resetLine = s.resetLine := rfl
@[simp] theorem State.setEntryMode_pinScript (s : State) (em : EntryMode) :
    (s.setEntryMode em).pinScript = s.pinScript := rfl
@[simp] theorem State.setEntryMode_timerScript (s : State) (em : EntryMode) :
    (s.setEntryMode em).timerScript = s.timerScript := rfl
@[simp] theorem State.setEntryMode_draws (s : State) (em : EntryMode) :
    (s.setEntryMode em).draws = s.draws := rfl

/-! ### `State.resetSampled` -/

@[simp] theorem State.resetSampled_life (s : State) :
    (s.resetSampled).life = s.life := rfl
@[simp] theorem State.resetSampled_entryMode (s : State) :
    (s.resetSampled).entryMode = s.entryMode := rfl
@[simp] theorem State.resetSampled_code (s : State) :
    (s.resetSampled).code = s.code := rfl
@[simp] theorem State.resetSampled_busy (s : State) :
    (s.resetSampled).busy = s.busy := rfl
@[simp] theorem State.resetSampled_errPin (s : State) :
    (s.resetSampled).errPin = s.errPin := rfl
@[simp] theorem State.resetSampled_errInfo (s : State) :
    (s.resetSampled).errInfo = s.errInfo := rfl
@[simp] theorem State.resetSampled_cur (s : State) :
    (s.resetSampled).cur = s.cur := rfl
@[simp] theorem State.resetSampled_seq (s : State) :
    (s.resetSampled).seq = s.seq := rfl
@[simp] theorem State.resetSampled_seqPc (s : State) :
    (s.resetSampled).seqPc = s.seqPc := rfl
@[simp] theorem State.resetSampled_pinLvl (s : State) :
    (s.resetSampled).pinLvl = s.pinLvl := rfl
@[simp] theorem State.resetSampled_trace (s : State) :
    (s.resetSampled).trace = s.trace := rfl
@[simp] theorem State.resetSampled_settleDebt (s : State) :
    (s.resetSampled).settleDebt = s.settleDebt := rfl
@[simp] theorem State.resetSampled_hazard (s : State) :
    (s.resetSampled).hazard = s.hazard := rfl
@[simp] theorem State.resetSampled_sync (s : State) :
    (s.resetSampled).sync = s.sync := rfl
@[simp] theorem State.resetSampled_offers (s : State) :
    (s.resetSampled).offers = s.offers := rfl
@[simp] theorem State.resetSampled_responses (s : State) :
    (s.resetSampled).responses = s.responses := rfl
@[simp] theorem State.resetSampled_resetLine (s : State) :
    (s.resetSampled).resetLine = s.resetLine.tail := rfl
@[simp] theorem State.resetSampled_pinScript (s : State) :
    (s.resetSampled).pinScript = s.pinScript := rfl
@[simp] theorem State.resetSampled_timerScript (s : State) :
    (s.resetSampled).timerScript = s.timerScript := rfl
@[simp] theorem State.resetSampled_draws (s : State) :
    (s.resetSampled).draws = s.draws := rfl

/-! ### `State.resetEngine` -/

@[simp] theorem State.resetEngine_life (s : State) :
    (s.resetEngine).life = .uninitialized := rfl
@[simp] theorem State.resetEngine_entryMode (s : State) :
    (s.resetEngine).entryMode = Config.engine.entryReset := rfl
@[simp] theorem State.resetEngine_code (s : State) :
    (s.resetEngine).code = .ok := rfl
@[simp] theorem State.resetEngine_busy (s : State) :
    (s.resetEngine).busy = false := rfl
@[simp] theorem State.resetEngine_errPin (s : State) :
    (s.resetEngine).errPin = none := rfl
@[simp] theorem State.resetEngine_errInfo (s : State) :
    (s.resetEngine).errInfo = none := rfl
@[simp] theorem State.resetEngine_cur (s : State) :
    (s.resetEngine).cur = none := rfl
@[simp] theorem State.resetEngine_seq (s : State) :
    (s.resetEngine).seq = [] := rfl
@[simp] theorem State.resetEngine_seqPc (s : State) :
    (s.resetEngine).seqPc = 0 := rfl
@[simp] theorem State.resetEngine_pinLvl (s : State) :
    (s.resetEngine).pinLvl = PinLevels.unknown := rfl
@[simp] theorem State.resetEngine_trace (s : State) :
    (s.resetEngine).trace = [] := rfl
@[simp] theorem State.resetEngine_settleDebt (s : State) :
    (s.resetEngine).settleDebt = 0 := rfl
@[simp] theorem State.resetEngine_hazard (s : State) :
    (s.resetEngine).hazard = false := rfl
@[simp] theorem State.resetEngine_sync (s : State) :
    (s.resetEngine).sync = false := rfl
@[simp] theorem State.resetEngine_offers (s : State) :
    (s.resetEngine).offers = s.offers := rfl
@[simp] theorem State.resetEngine_responses (s : State) :
    (s.resetEngine).responses = s.responses := rfl
@[simp] theorem State.resetEngine_resetLine (s : State) :
    (s.resetEngine).resetLine = s.resetLine := rfl
@[simp] theorem State.resetEngine_pinScript (s : State) :
    (s.resetEngine).pinScript = s.pinScript := rfl
@[simp] theorem State.resetEngine_timerScript (s : State) :
    (s.resetEngine).timerScript = s.timerScript := rfl
@[simp] theorem State.resetEngine_draws (s : State) :
    (s.resetEngine).draws = s.draws := rfl

/-! ### `State.unitStart`: the fields it never writes -/

@[simp] theorem State.unitStart_life (s : State) (tag : Tag) :
    (s.unitStart tag).life = s.life := by
  cases tag <;> rfl
@[simp] theorem State.unitStart_entryMode (s : State) (tag : Tag) :
    (s.unitStart tag).entryMode = s.entryMode := by
  cases tag <;> rfl
@[simp] theorem State.unitStart_code (s : State) (tag : Tag) :
    (s.unitStart tag).code = s.code := by
  cases tag <;> rfl
@[simp] theorem State.unitStart_busy (s : State) (tag : Tag) :
    (s.unitStart tag).busy = s.busy := by
  cases tag <;> rfl
@[simp] theorem State.unitStart_errPin (s : State) (tag : Tag) :
    (s.unitStart tag).errPin = s.errPin := by
  cases tag <;> rfl
@[simp] theorem State.unitStart_errInfo (s : State) (tag : Tag) :
    (s.unitStart tag).errInfo = s.errInfo := by
  cases tag <;> rfl
@[simp] theorem State.unitStart_cur (s : State) (tag : Tag) :
    (s.unitStart tag).cur = s.cur := by
  cases tag <;> rfl
@[simp] theorem State.unitStart_seq (s : State) (tag : Tag) :
    (s.unitStart tag).seq = s.seq := by
  cases tag <;> rfl
@[simp] theorem State.unitStart_seqPc (s : State) (tag : Tag) :
    (s.unitStart tag).seqPc = s.seqPc := by
  cases tag <;> rfl
@[simp] theorem State.unitStart_pinLvl (s : State) (tag : Tag) :
    (s.unitStart tag).pinLvl = s.pinLvl := by
  cases tag <;> rfl
@[simp] theorem State.unitStart_trace (s : State) (tag : Tag) :
    (s.unitStart tag).trace = s.trace := by
  cases tag <;> rfl
@[simp] theorem State.unitStart_settleDebt (s : State) (tag : Tag) :
    (s.unitStart tag).settleDebt = s.settleDebt := by
  cases tag <;> rfl
@[simp] theorem State.unitStart_sync (s : State) (tag : Tag) :
    (s.unitStart tag).sync = s.sync := by
  cases tag <;> rfl
@[simp] theorem State.unitStart_offers (s : State) (tag : Tag) :
    (s.unitStart tag).offers = s.offers := by
  cases tag <;> rfl
@[simp] theorem State.unitStart_responses (s : State) (tag : Tag) :
    (s.unitStart tag).responses = s.responses := by
  cases tag <;> rfl
@[simp] theorem State.unitStart_resetLine (s : State) (tag : Tag) :
    (s.unitStart tag).resetLine = s.resetLine := by
  cases tag <;> rfl
@[simp] theorem State.unitStart_pinScript (s : State) (tag : Tag) :
    (s.unitStart tag).pinScript = s.pinScript := by
  cases tag <;> rfl
@[simp] theorem State.unitStart_timerScript (s : State) (tag : Tag) :
    (s.unitStart tag).timerScript = s.timerScript := by
  cases tag <;> rfl
@[simp] theorem State.unitStart_draws (s : State) (tag : Tag) :
    (s.unitStart tag).draws = s.draws := by
  cases tag <;> rfl

/-! ### `State.unitEnd`: the fields it never writes -/

@[simp] theorem State.unitEnd_life (s : State) (tag : Tag) :
    (s.unitEnd tag).life = s.life := by
  cases tag <;> rfl
@[simp] theorem State.unitEnd_entryMode (s : State) (tag : Tag) :
    (s.unitEnd tag).entryMode = s.entryMode := by
  cases tag <;> rfl
@[simp] theorem State.unitEnd_code (s : State) (tag : Tag) :
    (s.unitEnd tag).code = s.code := by
  cases tag <;> rfl
@[simp] theorem State.unitEnd_busy (s : State) (tag : Tag) :
    (s.unitEnd tag).busy = s.busy := by
  cases tag <;> rfl
@[simp] theorem State.unitEnd_errPin (s : State) (tag : Tag) :
    (s.unitEnd tag).errPin = s.errPin := by
  cases tag <;> rfl
@[simp] theorem State.unitEnd_errInfo (s : State) (tag : Tag) :
    (s.unitEnd tag).errInfo = s.errInfo := by
  cases tag <;> rfl
@[simp] theorem State.unitEnd_cur (s : State) (tag : Tag) :
    (s.unitEnd tag).cur = s.cur := by
  cases tag <;> rfl
@[simp] theorem State.unitEnd_seq (s : State) (tag : Tag) :
    (s.unitEnd tag).seq = s.seq := by
  cases tag <;> rfl
@[simp] theorem State.unitEnd_seqPc (s : State) (tag : Tag) :
    (s.unitEnd tag).seqPc = s.seqPc := by
  cases tag <;> rfl
@[simp] theorem State.unitEnd_pinLvl (s : State) (tag : Tag) :
    (s.unitEnd tag).pinLvl = s.pinLvl := by
  cases tag <;> rfl
@[simp] theorem State.unitEnd_trace (s : State) (tag : Tag) :
    (s.unitEnd tag).trace = s.trace := by
  cases tag <;> rfl
@[simp] theorem State.unitEnd_hazard (s : State) (tag : Tag) :
    (s.unitEnd tag).hazard = s.hazard := by
  cases tag <;> rfl
@[simp] theorem State.unitEnd_offers (s : State) (tag : Tag) :
    (s.unitEnd tag).offers = s.offers := by
  cases tag <;> rfl
@[simp] theorem State.unitEnd_responses (s : State) (tag : Tag) :
    (s.unitEnd tag).responses = s.responses := by
  cases tag <;> rfl
@[simp] theorem State.unitEnd_resetLine (s : State) (tag : Tag) :
    (s.unitEnd tag).resetLine = s.resetLine := by
  cases tag <;> rfl
@[simp] theorem State.unitEnd_pinScript (s : State) (tag : Tag) :
    (s.unitEnd tag).pinScript = s.pinScript := by
  cases tag <;> rfl
@[simp] theorem State.unitEnd_timerScript (s : State) (tag : Tag) :
    (s.unitEnd tag).timerScript = s.timerScript := by
  cases tag <;> rfl
@[simp] theorem State.unitEnd_draws (s : State) (tag : Tag) :
    (s.unitEnd tag).draws = s.draws := by
  cases tag <;> rfl

/-! ### `State.unitCut`: the fields it never writes -/

@[simp] theorem State.unitCut_life (s : State) (tag : Tag) :
    (s.unitCut tag).life = s.life := by
  cases tag <;> rfl
@[simp] theorem State.unitCut_entryMode (s : State) (tag : Tag) :
    (s.unitCut tag).entryMode = s.entryMode := by
  cases tag <;> rfl
@[simp] theorem State.unitCut_code (s : State) (tag : Tag) :
    (s.unitCut tag).code = s.code := by
  cases tag <;> rfl
@[simp] theorem State.unitCut_busy (s : State) (tag : Tag) :
    (s.unitCut tag).busy = s.busy := by
  cases tag <;> rfl
@[simp] theorem State.unitCut_errPin (s : State) (tag : Tag) :
    (s.unitCut tag).errPin = s.errPin := by
  cases tag <;> rfl
@[simp] theorem State.unitCut_errInfo (s : State) (tag : Tag) :
    (s.unitCut tag).errInfo = s.errInfo := by
  cases tag <;> rfl
@[simp] theorem State.unitCut_cur (s : State) (tag : Tag) :
    (s.unitCut tag).cur = s.cur := by
  cases tag <;> rfl
@[simp] theorem State.unitCut_seq (s : State) (tag : Tag) :
    (s.unitCut tag).seq = s.seq := by
  cases tag <;> rfl
@[simp] theorem State.unitCut_seqPc (s : State) (tag : Tag) :
    (s.unitCut tag).seqPc = s.seqPc := by
  cases tag <;> rfl
@[simp] theorem State.unitCut_pinLvl (s : State) (tag : Tag) :
    (s.unitCut tag).pinLvl = s.pinLvl := by
  cases tag <;> rfl
@[simp] theorem State.unitCut_trace (s : State) (tag : Tag) :
    (s.unitCut tag).trace = s.trace := by
  cases tag <;> rfl
@[simp] theorem State.unitCut_settleDebt (s : State) (tag : Tag) :
    (s.unitCut tag).settleDebt = s.settleDebt := by
  cases tag <;> rfl
@[simp] theorem State.unitCut_hazard (s : State) (tag : Tag) :
    (s.unitCut tag).hazard = s.hazard := by
  cases tag <;> rfl
@[simp] theorem State.unitCut_offers (s : State) (tag : Tag) :
    (s.unitCut tag).offers = s.offers := by
  cases tag <;> rfl
@[simp] theorem State.unitCut_responses (s : State) (tag : Tag) :
    (s.unitCut tag).responses = s.responses := by
  cases tag <;> rfl
@[simp] theorem State.unitCut_resetLine (s : State) (tag : Tag) :
    (s.unitCut tag).resetLine = s.resetLine := by
  cases tag <;> rfl
@[simp] theorem State.unitCut_pinScript (s : State) (tag : Tag) :
    (s.unitCut tag).pinScript = s.pinScript := by
  cases tag <;> rfl
@[simp] theorem State.unitCut_timerScript (s : State) (tag : Tag) :
    (s.unitCut tag).timerScript = s.timerScript := by
  cases tag <;> rfl
@[simp] theorem State.unitCut_draws (s : State) (tag : Tag) :
    (s.unitCut tag).draws = s.draws := by
  cases tag <;> rfl

/-! ### `State.pinAnswered`: the fields it never writes -/

@[simp] theorem State.pinAnswered_life (s : State) :
    (s.pinAnswered).life = s.life := by
  unfold State.pinAnswered; split <;> rfl
@[simp] theorem State.pinAnswered_entryMode (s : State) :
    (s.pinAnswered).entryMode = s.entryMode := by
  unfold State.pinAnswered; split <;> rfl
@[simp] theorem State.pinAnswered_code (s : State) :
    (s.pinAnswered).code = s.code := by
  unfold State.pinAnswered; split <;> rfl
@[simp] theorem State.pinAnswered_busy (s : State) :
    (s.pinAnswered).busy = s.busy := by
  unfold State.pinAnswered; split <;> rfl
@[simp] theorem State.pinAnswered_errPin (s : State) :
    (s.pinAnswered).errPin = s.errPin := by
  unfold State.pinAnswered; split <;> rfl
@[simp] theorem State.pinAnswered_errInfo (s : State) :
    (s.pinAnswered).errInfo = s.errInfo := by
  unfold State.pinAnswered; split <;> rfl
@[simp] theorem State.pinAnswered_cur (s : State) :
    (s.pinAnswered).cur = s.cur := by
  unfold State.pinAnswered; split <;> rfl
@[simp] theorem State.pinAnswered_seq (s : State) :
    (s.pinAnswered).seq = s.seq := by
  unfold State.pinAnswered; split <;> rfl
@[simp] theorem State.pinAnswered_seqPc (s : State) :
    (s.pinAnswered).seqPc = s.seqPc := by
  unfold State.pinAnswered; split <;> rfl
@[simp] theorem State.pinAnswered_pinLvl (s : State) :
    (s.pinAnswered).pinLvl = s.pinLvl := by
  unfold State.pinAnswered; split <;> rfl
@[simp] theorem State.pinAnswered_trace (s : State) :
    (s.pinAnswered).trace = s.trace := by
  unfold State.pinAnswered; split <;> rfl
@[simp] theorem State.pinAnswered_settleDebt (s : State) :
    (s.pinAnswered).settleDebt = s.settleDebt := by
  unfold State.pinAnswered; split <;> rfl
@[simp] theorem State.pinAnswered_hazard (s : State) :
    (s.pinAnswered).hazard = s.hazard := by
  unfold State.pinAnswered; split <;> rfl
@[simp] theorem State.pinAnswered_sync (s : State) :
    (s.pinAnswered).sync = s.sync := by
  unfold State.pinAnswered; split <;> rfl
@[simp] theorem State.pinAnswered_offers (s : State) :
    (s.pinAnswered).offers = s.offers := by
  unfold State.pinAnswered; split <;> rfl
@[simp] theorem State.pinAnswered_responses (s : State) :
    (s.pinAnswered).responses = s.responses := by
  unfold State.pinAnswered; split <;> rfl
@[simp] theorem State.pinAnswered_resetLine (s : State) :
    (s.pinAnswered).resetLine = s.resetLine := by
  unfold State.pinAnswered; split <;> rfl
@[simp] theorem State.pinAnswered_timerScript (s : State) :
    (s.pinAnswered).timerScript = s.timerScript := by
  unfold State.pinAnswered; split <;> rfl

/-! ### `State.timerAnswered`: the fields it never writes -/

@[simp] theorem State.timerAnswered_life (s : State) :
    (s.timerAnswered).life = s.life := by
  unfold State.timerAnswered; split <;> rfl
@[simp] theorem State.timerAnswered_entryMode (s : State) :
    (s.timerAnswered).entryMode = s.entryMode := by
  unfold State.timerAnswered; split <;> rfl
@[simp] theorem State.timerAnswered_code (s : State) :
    (s.timerAnswered).code = s.code := by
  unfold State.timerAnswered; split <;> rfl
@[simp] theorem State.timerAnswered_busy (s : State) :
    (s.timerAnswered).busy = s.busy := by
  unfold State.timerAnswered; split <;> rfl
@[simp] theorem State.timerAnswered_errPin (s : State) :
    (s.timerAnswered).errPin = s.errPin := by
  unfold State.timerAnswered; split <;> rfl
@[simp] theorem State.timerAnswered_errInfo (s : State) :
    (s.timerAnswered).errInfo = s.errInfo := by
  unfold State.timerAnswered; split <;> rfl
@[simp] theorem State.timerAnswered_cur (s : State) :
    (s.timerAnswered).cur = s.cur := by
  unfold State.timerAnswered; split <;> rfl
@[simp] theorem State.timerAnswered_seq (s : State) :
    (s.timerAnswered).seq = s.seq := by
  unfold State.timerAnswered; split <;> rfl
@[simp] theorem State.timerAnswered_seqPc (s : State) :
    (s.timerAnswered).seqPc = s.seqPc := by
  unfold State.timerAnswered; split <;> rfl
@[simp] theorem State.timerAnswered_pinLvl (s : State) :
    (s.timerAnswered).pinLvl = s.pinLvl := by
  unfold State.timerAnswered; split <;> rfl
@[simp] theorem State.timerAnswered_trace (s : State) :
    (s.timerAnswered).trace = s.trace := by
  unfold State.timerAnswered; split <;> rfl
@[simp] theorem State.timerAnswered_settleDebt (s : State) :
    (s.timerAnswered).settleDebt = s.settleDebt := by
  unfold State.timerAnswered; split <;> rfl
@[simp] theorem State.timerAnswered_hazard (s : State) :
    (s.timerAnswered).hazard = s.hazard := by
  unfold State.timerAnswered; split <;> rfl
@[simp] theorem State.timerAnswered_sync (s : State) :
    (s.timerAnswered).sync = s.sync := by
  unfold State.timerAnswered; split <;> rfl
@[simp] theorem State.timerAnswered_offers (s : State) :
    (s.timerAnswered).offers = s.offers := by
  unfold State.timerAnswered; split <;> rfl
@[simp] theorem State.timerAnswered_responses (s : State) :
    (s.timerAnswered).responses = s.responses := by
  unfold State.timerAnswered; split <;> rfl
@[simp] theorem State.timerAnswered_resetLine (s : State) :
    (s.timerAnswered).resetLine = s.resetLine := by
  unfold State.timerAnswered; split <;> rfl
@[simp] theorem State.timerAnswered_pinScript (s : State) :
    (s.timerAnswered).pinScript = s.pinScript := by
  unfold State.timerAnswered; split <;> rfl

/-! ### `State.completionAction`: the fields it never writes -/

@[simp] theorem State.completionAction_entryMode (s : State) :
    (s.completionAction).entryMode = s.entryMode := by
  unfold State.completionAction; repeat' split
  all_goals rfl
@[simp] theorem State.completionAction_code (s : State) :
    (s.completionAction).code = s.code := by
  unfold State.completionAction; repeat' split
  all_goals rfl
@[simp] theorem State.completionAction_busy (s : State) :
    (s.completionAction).busy = s.busy := by
  unfold State.completionAction; repeat' split
  all_goals rfl
@[simp] theorem State.completionAction_errPin (s : State) :
    (s.completionAction).errPin = s.errPin := by
  unfold State.completionAction; repeat' split
  all_goals rfl
@[simp] theorem State.completionAction_errInfo (s : State) :
    (s.completionAction).errInfo = s.errInfo := by
  unfold State.completionAction; repeat' split
  all_goals rfl
@[simp] theorem State.completionAction_cur (s : State) :
    (s.completionAction).cur = s.cur := by
  unfold State.completionAction; repeat' split
  all_goals rfl
@[simp] theorem State.completionAction_seq (s : State) :
    (s.completionAction).seq = s.seq := by
  unfold State.completionAction; repeat' split
  all_goals rfl
@[simp] theorem State.completionAction_seqPc (s : State) :
    (s.completionAction).seqPc = s.seqPc := by
  unfold State.completionAction; repeat' split
  all_goals rfl
@[simp] theorem State.completionAction_pinLvl (s : State) :
    (s.completionAction).pinLvl = s.pinLvl := by
  unfold State.completionAction; repeat' split
  all_goals rfl
@[simp] theorem State.completionAction_trace (s : State) :
    (s.completionAction).trace = s.trace := by
  unfold State.completionAction; repeat' split
  all_goals rfl
@[simp] theorem State.completionAction_settleDebt (s : State) :
    (s.completionAction).settleDebt = s.settleDebt := by
  unfold State.completionAction; repeat' split
  all_goals rfl
@[simp] theorem State.completionAction_hazard (s : State) :
    (s.completionAction).hazard = s.hazard := by
  unfold State.completionAction; repeat' split
  all_goals rfl
@[simp] theorem State.completionAction_sync (s : State) :
    (s.completionAction).sync = s.sync := by
  unfold State.completionAction; repeat' split
  all_goals rfl
@[simp] theorem State.completionAction_offers (s : State) :
    (s.completionAction).offers = s.offers := by
  unfold State.completionAction; repeat' split
  all_goals rfl
@[simp] theorem State.completionAction_responses (s : State) :
    (s.completionAction).responses = s.responses := by
  unfold State.completionAction; repeat' split
  all_goals rfl
@[simp] theorem State.completionAction_resetLine (s : State) :
    (s.completionAction).resetLine = s.resetLine := by
  unfold State.completionAction; repeat' split
  all_goals rfl
@[simp] theorem State.completionAction_pinScript (s : State) :
    (s.completionAction).pinScript = s.pinScript := by
  unfold State.completionAction; repeat' split
  all_goals rfl
@[simp] theorem State.completionAction_timerScript (s : State) :
    (s.completionAction).timerScript = s.timerScript := by
  unfold State.completionAction; repeat' split
  all_goals rfl
@[simp] theorem State.completionAction_draws (s : State) :
    (s.completionAction).draws = s.draws := by
  unfold State.completionAction; repeat' split
  all_goals rfl

/-! ### What the matched updates do to the fields they write -/

@[simp] theorem State.unitStart_hazard_start (s : State) (u : XferUnit) :
    (s.unitStart (.start u)).hazard =
      (s.hazard || owes s.settleDebt || (isByteUnit u && !s.sync)) := rfl

@[simp] theorem State.unitStart_outside (s : State) : s.unitStart .outside = s := rfl
@[simp] theorem State.unitStart_inside (s : State) (u : XferUnit) : s.unitStart (.inside u) = s := rfl
@[simp] theorem State.unitStart_stop (s : State) (u : XferUnit) : s.unitStart (.stop u) = s := rfl
@[simp] theorem State.unitEnd_outside (s : State) : s.unitEnd .outside = s := rfl
@[simp] theorem State.unitEnd_inside (s : State) (u : XferUnit) : s.unitEnd (.inside u) = s := rfl
@[simp] theorem State.unitEnd_start (s : State) (u : XferUnit) : s.unitEnd (.start u) = s := rfl

@[simp] theorem State.unitEnd_settleDebt_stop (s : State) (u : XferUnit) :
    (s.unitEnd (.stop u)).settleDebt = settle u := rfl

@[simp] theorem State.unitEnd_sync_stop (s : State) (u : XferUnit) :
    (s.unitEnd (.stop u)).sync = syncAfter u s.sync := rfl

@[simp] theorem State.unitCut_sync (s : State) (tag : Tag) :
    (s.unitCut tag).sync = if tag = .outside then s.sync else false := by
  cases tag <;> rfl

/-! ### The ports -/

theorem State.pinAnswer_cons (s : State) (a : Option PinAnswer) (rest : List (Option PinAnswer))
    (h : s.pinScript = a :: rest) : s.pinAnswer = a := by
  simp [State.pinAnswer, h]

theorem State.pinAnswered_cons (s : State) (a : Option PinAnswer) (rest : List (Option PinAnswer))
    (h : s.pinScript = a :: rest) : s.pinAnswered = { s with pinScript := rest } := by
  simp [State.pinAnswered, h]

theorem State.timerAnswer_cons (s : State) (a : Option TimerAnswer) (rest : List (Option TimerAnswer))
    (h : s.timerScript = a :: rest) : s.timerAnswer = a := by
  simp [State.timerAnswer, h]

theorem State.timerAnswered_cons (s : State) (a : Option TimerAnswer) (rest : List (Option TimerAnswer))
    (h : s.timerScript = a :: rest) : s.timerAnswered = { s with timerScript := rest } := by
  simp [State.timerAnswered, h]

/-! ### The lines -/

@[simp] theorem PinLevels.get_set_self (l : PinLevels) (p : Line) (v : Shadow) : (l.set p v).get p = v := by
  cases p <;> rfl

theorem PinLevels.get_set_other (l : PinLevels) (p q : Line) (v : Shadow) (h : q ≠ p) :
    (l.set p v).get q = l.get q := by
  cases p <;> cases q <;> first | rfl | exact absurd rfl h

/-! ### Causes -/

theorem Cause.life_failed_or_same (c : Cause) (l : Life) : c.life l = .failed ∨ c.life l = l := by
  cases c <;> simp [Cause.life]

end Sys2Proof.Machine
end

