-- ==== Sys2Proof/Laws/Ops.lean ====
section
/-! SUPPORT. What each shared operation and the step can do, said once: inversion lemmas to be cited instead of
unfolding the step. -/

namespace Sys2Proof.Machine

/-- The request errors: the causes that change nothing besides the response (R241). -/
def Cause.isRequestError : Cause → Bool
  | .gpioError _ _ => false
  | .timerError => false
  | _ => true

theorem Cause.life_of_isRequestError {c : Cause} (h : c.isRequestError = true) (l : Life) : c.life l = l := by
  cases c <;> first | rfl | (simp [Cause.isRequestError] at h)

theorem State.raise_eq_answeredError {c : Cause} (h : c.isRequestError = true) (s : State) :
    s.raise c = s.answeredError c.code := by
  cases c <;> first | rfl | (simp [Cause.isRequestError] at h)

/-- The expansion of a request under parameters `P`, the entry mode being `em` (the expansions of 41..45). -/
def expansion (P : Params) (em : EntryMode) : Instr → List MicroOp
  | .init _ => expandInit P em
  | .command b => expandCommand P b
  | .writeChar c => expandWriteChar P c
  | .print payload => expandPrint P payload
  | .setEntryMode dir et => expandSetEntryMode P { dir := dir, et := et }
  | .setCursor col row => expandSetCursor P col row
  | .setCgramAddr addr => expandSetCgramAddr P addr
  | .clear => expandClear P
  | .home => expandHome P
  | .delay interval => expandDelay interval

/-- The acceptance actions of a request (R242): INIT's on the scoreboard, SET_ENTRY_MODE's on its register. -/
def acceptAction (i : Instr) (s : State) : State :=
  match i with
  | .init _ => s.powerUp
  | .setEntryMode dir et => s.setEntryMode { dir := dir, et := et }
  | _ => s

/-- Everything `exec` can do: a request error, or the acceptance of a request that LIFE accepts. -/
theorem exec_cases (i : Instr) (s : State) :
    (∃ c : Cause, c.isRequestError = true ∧ exec i s = .next (s.raise c)) ∨
    (accepts s.life i = true ∧ i ≠ .init .eightBit ∧
      exec i s = .next ((acceptAction i s).load (expansion Config.engine s.entryMode i))) := by
  cases i with
  | init bw =>
    by_cases h : s.life = .uninitialized
    · cases bw
      · exact .inr ⟨by simp [accepts, h], by simp, by simp [exec, execInit, State.acceptWhen, h, acceptAction, expansion]⟩
      · exact .inl ⟨.unsupportedBusWidth, rfl, by simp [exec, execInit, State.acceptWhen, h]⟩
    · exact .inl ⟨.notReady, rfl, by simp [exec, execInit, State.acceptWhen, h]⟩
  | setCursor col row =>
    by_cases h : s.life = .ready
    · by_cases hv : cursorValid Config.engine col row = true
      · exact .inr ⟨by simp [accepts, h], by simp,
          by simp [exec, execSetCursor, State.acceptWhen, h, hv, acceptAction, expansion]⟩
      · exact .inl ⟨.invalidCursorPos, rfl, by simp [exec, execSetCursor, State.acceptWhen, h, hv]⟩
    · exact .inl ⟨.notReady, rfl, by simp [exec, execSetCursor, State.acceptWhen, h]⟩
  | setCgramAddr addr =>
    by_cases h : s.life = .ready
    · by_cases hv : cgramValid Config.engine addr = true
      · exact .inr ⟨by simp [accepts, h], by simp,
          by simp [exec, execSetCgramAddr, State.acceptWhen, h, hv, acceptAction, expansion]⟩
      · exact .inl ⟨.invalidAddr, rfl, by simp [exec, execSetCgramAddr, State.acceptWhen, h, hv]⟩
    · exact .inl ⟨.notReady, rfl, by simp [exec, execSetCgramAddr, State.acceptWhen, h]⟩
  | command b =>
    by_cases h : s.life = .ready
    · exact .inr ⟨by simp [accepts, h], by simp, by simp [exec, execCommand, State.acceptWhen, h, acceptAction, expansion]⟩
    · exact .inl ⟨.notReady, rfl, by simp [exec, execCommand, State.acceptWhen, h]⟩
  | writeChar c =>
    by_cases h : s.life = .ready
    · exact .inr ⟨by simp [accepts, h], by simp, by simp [exec, execWriteChar, State.acceptWhen, h, acceptAction, expansion]⟩
    · exact .inl ⟨.notReady, rfl, by simp [exec, execWriteChar, State.acceptWhen, h]⟩
  | print payload =>
    by_cases h : s.life = .ready
    · exact .inr ⟨by simp [accepts, h], by simp, by simp [exec, execPrint, State.acceptWhen, h, acceptAction, expansion]⟩
    · exact .inl ⟨.notReady, rfl, by simp [exec, execPrint, State.acceptWhen, h]⟩
  | setEntryMode dir et =>
    by_cases h : s.life = .ready
    · exact .inr ⟨by simp [accepts, h], by simp,
        by simp [exec, execSetEntryMode, State.acceptWhen, h, acceptAction, expansion]⟩
    · exact .inl ⟨.notReady, rfl, by simp [exec, execSetEntryMode, State.acceptWhen, h]⟩
  | clear =>
    by_cases h : s.life = .ready
    · exact .inr ⟨by simp [accepts, h], by simp, by simp [exec, execClear, State.acceptWhen, h, acceptAction, expansion]⟩
    · exact .inl ⟨.notReady, rfl, by simp [exec, execClear, State.acceptWhen, h]⟩
  | home =>
    by_cases h : s.life = .ready
    · exact .inr ⟨by simp [accepts, h], by simp, by simp [exec, execHome, State.acceptWhen, h, acceptAction, expansion]⟩
    · exact .inl ⟨.notReady, rfl, by simp [exec, execHome, State.acceptWhen, h]⟩
  | delay interval =>
    by_cases h : s.life = .ready
    · exact .inr ⟨by simp [accepts, h], by simp, by simp [exec, execDelay, State.acceptWhen, h, acceptAction, expansion]⟩
    · exact .inl ⟨.notReady, rfl, by simp [exec, execDelay, State.acceptWhen, h]⟩

/-- The state after a pin write that answered ok (R116). -/
def afterPinOk (s : State) (p : Line) (v : Level) (tag : Tag) : State :=
  (((((s.unitStart tag).pinAnswered).emit (.pinEv p v .ok)).setPin p (.level v)).unitEnd tag).advance

/-- The state after a pin write that answered `err(e)` (R117). -/
def afterPinErr (s : State) (p : Line) (v : Level) (tag : Tag) (e : PinErr) : State :=
  (((((s.unitStart tag).pinAnswered).emit (.pinEv p v (.err e))).setPin p .x).unitCut tag).raise (.gpioError p e)

/-- The state after a wait that answered ok (R118). -/
def afterWaitOk (s : State) (d : Nat) : State := ((s.timerAnswered.emit (.waitEv d .ok)).credit d).advance

/-- The state after a wait that answered err (R119). -/
def afterWaitErr (s : State) (d : Nat) (tag : Tag) : State :=
  ((s.timerAnswered.emit (.waitEv d .err)).unitCut tag).raise .timerError

/-- Everything a step of a busy engine can do, when it gives a next state. -/
theorem busyStep_cases {s t : State} (h : busyStep s = .next t) :
    (∃ p v tag, s.seq[s.seqPc]? = some (.pin p v tag) ∧
      ((s.pinAnswer = some .ok ∧ t = afterPinOk s p v tag) ∨
       (∃ e, s.pinAnswer = some (.err e) ∧ t = afterPinErr s p v tag e))) ∨
    (∃ d tag, s.seq[s.seqPc]? = some (.wait d tag) ∧
      ((s.timerAnswer = some .ok ∧ t = afterWaitOk s d) ∨
       (s.timerAnswer = some .err ∧ t = afterWaitErr s d tag))) ∨
    (s.seqPc = s.seq.length ∧ t = s.complete) := by
  unfold busyStep at h
  split at h
  · rename_i op hop
    cases op with
    | pin p v tag =>
      refine .inl ⟨p, v, tag, hop, ?_⟩
      simp only [runMicroOp, runPin] at h
      split at h
      · cases h
      · rename_i ha; cases h; exact .inl ⟨ha, rfl⟩
      · rename_i e ha; cases h; exact .inr ⟨e, ha, rfl⟩
    | wait d tag =>
      refine .inr (.inl ⟨d, tag, hop, ?_⟩)
      simp only [runMicroOp, runWait] at h
      split at h
      · cases h
      · rename_i ha; cases h; exact .inl ⟨ha, rfl⟩
      · rename_i ha; cases h; exact .inr ⟨ha, rfl⟩
  · split at h
    · rename_i hpc; cases h; exact .inr (.inr ⟨hpc, rfl⟩)
    · cases h

/-- Everything a step of an idle engine can do, when it gives a next state. -/
theorem idleStep_cases {s t : State} (h : idleStep s = .next t) :
    (s.offers = [] ∧ t = s) ∨
    (∃ r rest, s.offers = r :: rest ∧
      ((∃ i, decode r = .ok i ∧ exec i (s.latch r rest) = .next t) ∨
       ((decode r = .error .reservedOpcode ∨ decode r = .error .reservedBits) ∧
         t = (s.latch r rest).raise .illegalRequest))) := by
  unfold idleStep at h
  split at h
  · rename_i r rest ho
    refine .inr ⟨r, rest, ho, ?_⟩
    unfold acceptRequest at h
    split at h
    · rename_i i hd; exact .inl ⟨i, hd, h⟩
    · cases h
    · rename_i hd; cases h; exact .inr ⟨.inl hd, rfl⟩
    · rename_i hd; cases h; exact .inr ⟨.inr hd, rfl⟩
  · rename_i ho; cases h; exact .inl ⟨ho, rfl⟩

/-- Everything a step can do, when it gives a next state: a reset, a busy step or an idle step. -/
theorem step_cases {s t : State} (h : step s = .next t) :
    (s.resetNow = true ∧ t = s.resetSampled.resetEngine) ∨
    (s.resetNow = false ∧ s.busy = true ∧ busyStep s.resetSampled = .next t) ∨
    (s.resetNow = false ∧ s.busy = false ∧ idleStep s.resetSampled = .next t) := by
  cases hr : s.resetNow
  · cases hb : s.busy
    · exact .inr (.inr ⟨rfl, rfl, by simpa [step, machineStep, engineStep, hr, hb] using h⟩)
    · exact .inr (.inl ⟨rfl, rfl, by simpa [step, machineStep, engineStep, hr, hb] using h⟩)
  · exact .inl ⟨rfl, by simpa [step, machineStep, hr] using h.symm⟩

/-- The host's run of the machine is `steps`. -/
theorem core_run_eq_steps (k : Nat) (s : State) : Host.Core.run core k s = steps k s := by
  induction k generalizing s with
  | zero => rfl
  | succ k ih =>
    cases h : step s with
    | next t =>
      have h' : core.step s = .next t := h
      simp only [Host.Core.run, h', steps, h]
      exact ih t
    | fault r =>
      have h' : core.step s = .fault r := h
      simp only [Host.Core.run, h', steps, h]
      rfl
    | refused r =>
      have h' : core.step s = .refused r := h
      simp only [Host.Core.run, h', steps, h]
      rfl

/-- A reset input that is low for at least one more step is low now. -/
theorem State.resetNow_of_low {s : State} {n : Nat} (h : ∀ level ∈ s.resetLine.take (n + 1), level = false) :
    s.resetNow = false := by
  unfold State.resetNow
  split
  · rename_i level rest hl
    exact h level (by simp [hl])
  · rfl

/-- A reset input that is low for `n + 1` steps is, once sampled, low for `n`. -/
theorem State.resetSampled_low {s : State} {n : Nat} (h : ∀ level ∈ s.resetLine.take (n + 1), level = false) :
    ∀ level ∈ s.resetSampled.resetLine.take n, level = false := by
  intro level hl
  refine h level ?_
  cases hs : s.resetLine with
  | nil => simp [State.resetSampled, hs] at hl
  | cons b rest =>
    simp only [State.resetSampled, hs, List.tail_cons] at hl
    exact List.mem_cons_of_mem _ hl

/-- The premises of a whole request leave the reset input low at its first step. -/
theorem State.Offers.resetNow {s : State} {r : Request} {rest : List Request} {pins waits : Nat}
    {ps : List (Option PinAnswer)} {ts : List (Option TimerAnswer)} (h : s.Offers r rest pins waits ps ts) :
    s.resetNow = false :=
  State.resetNow_of_low (n := pins + waits + 1) h.noReset

theorem step_of_reset {s : State} (h : s.resetNow = true) : step s = .next s.resetSampled.resetEngine := by
  simp [step, machineStep, h]

theorem step_of_busy {s : State} (hr : s.resetNow = false) (hb : s.busy = true) :
    step s = busyStep s.resetSampled := by
  simp [step, machineStep, engineStep, hr, hb]

theorem step_of_idle {s : State} (hr : s.resetNow = false) (hb : s.busy = false) :
    step s = idleStep s.resetSampled := by
  simp [step, machineStep, engineStep, hr, hb]

end Sys2Proof.Machine
end

