-- ==== Sys2Proof/Laws/PerInstr.lean ====
section
/-! SUPPORT. Statements made of every instruction as syntax, one lemma a constructor: the word an instruction
encodes to is one of its own row of spec/opcode_table.json, and no payload travels with it unless it is a PRINT. -/

namespace Sys2Proof.Laws.EncodesToItsRow

open Sys2Proof

/-- The row of spec/opcode_table.json of an instruction: its match and mask. -/
def row : Instr → Word × Word
  | .init _ => (0x10000000#32, 0xFFFFFFFE#32)
  | .command _ => (0x20000000#32, 0xFFFFFF00#32)
  | .writeChar _ => (0x30000000#32, 0xFFFFFF00#32)
  | .print _ => (0x40000000#32, 0xFFFF0000#32)
  | .setEntryMode _ _ => (0x50000000#32, 0xFFFFFFFC#32)
  | .setCursor _ _ => (0x60000000#32, 0xFFFF0000#32)
  | .setCgramAddr _ => (0x70000000#32, 0xFFFFFF00#32)
  | .clear => (0x80000000#32, 0xFFFFFFFF#32)
  | .home => (0x90000000#32, 0xFFFFFFFF#32)
  | .delay _ => (0xA0000000#32, 0xF0000000#32)

/-- The word of an instruction is in its row, and its payload is PRINT's bytes or nothing (R83, R87, R95). -/
def Statement (i : Instr) : Prop :=
  encodeWord i &&& (row i).2 = (row i).1 ∧
    (encodePayload i = [] ∨ ∃ payload, i = .print payload ∧ encodePayload i = payload)

/-- An opcode, fixed bits `f` and an operand `x`, under a mask of the opcode and the fixed bits. -/
theorem masked_append {n m : Nat} (op : BitVec 4) (f : BitVec n) (x : BitVec m) :
    (op ++ f ++ x) &&& (BitVec.allOnes 4 ++ BitVec.allOnes n ++ 0#m) = op ++ f ++ 0#m := by
  rw [BitVec.and_append, BitVec.and_append, BitVec.and_allOnes, BitVec.and_allOnes, BitVec.and_zero]

theorem init (bw : BusWidth) : Statement (.init bw) := by
  cases bw <;> exact ⟨by decide, .inl rfl⟩

theorem command (b : Byte) : Statement (.command b) :=
  ⟨masked_append 0x2#4 0#20 b, .inl rfl⟩

theorem writeChar (c : Byte) : Statement (.writeChar c) :=
  ⟨masked_append 0x3#4 0#20 c, .inl rfl⟩

theorem print (payload : List Byte) : Statement (.print payload) :=
  ⟨masked_append 0x4#4 0#12 (BitVec.ofNat 16 payload.length), .inr ⟨payload, rfl, rfl⟩⟩

theorem setEntryMode (dir : Direction) (et : Bool) : Statement (.setEntryMode dir et) := by
  cases dir <;> cases et <;> exact ⟨by decide, .inl rfl⟩

theorem setCursor (col row : Byte) : Statement (.setCursor col row) := by
  refine ⟨?_, .inl rfl⟩
  have h : encodeWord (.setCursor col row) = 0x6#4 ++ 0#12 ++ (row ++ col) := by
    simp only [encodeWord]; rw [BitVec.append_assoc]; rfl
  rw [h]
  exact masked_append 0x6#4 0#12 (row ++ col)

theorem setCgramAddr (addr : Byte) : Statement (.setCgramAddr addr) :=
  ⟨masked_append 0x7#4 0#20 addr, .inl rfl⟩

theorem clear : Statement .clear := ⟨by decide, .inl rfl⟩

theorem home : Statement .home := ⟨by decide, .inl rfl⟩

theorem delay (interval : Interval) : Statement (.delay interval) := by
  refine ⟨?_, .inl rfl⟩
  change (0xA#4 ++ interval) &&& (BitVec.allOnes 4 ++ 0#28) = 0xA#4 ++ 0#28
  rw [BitVec.and_append, BitVec.and_allOnes, BitVec.and_zero]

end Sys2Proof.Laws.EncodesToItsRow
end

