-- ==== Sys2Proof/Tests/Slice0.lean ====
section
/-! SUPPORT. Small tests, with results taken from spec/95_test_vectors.md or worked by hand from the rules, and a
witness for the hypotheses of every obligation that has any. -/

namespace Sys2Proof.Machine.Tests

open Sys2Proof Sys2Proof.Machine

/-! ### Small states -/

/-- An idle engine in a lifecycle state. -/
def idle (l : Life) : State := { State.reset with life := l }

/-- An idle engine offered one request. -/
def offered (l : Life) (r : Request) : State := { idle l with offers := [r] }

/-- A state whose ports answer ok `p` and `w` times. -/
def answering (p w : Nat) (s : State) : State :=
  { s with pinScript := List.replicate p (some .ok), timerScript := List.replicate w (some .ok) }

/-- A Ready engine in sync that serves CLEAR with the micro-ops `ops` still to run. -/
def serving (ops : List MicroOp) : State :=
  { idle .ready with busy := true, cur := some (encode .clear), seq := ops, sync := true }

/-- The same with one answer of the pin port. -/
def servingPin (p : Line) (v : Level) (tag : Tag) (a : Option PinAnswer) : State :=
  { serving [.pin p v tag] with pinScript := [a] }

/-- The same with one answer of the timer, the debt being 50. -/
def servingWait (d : Nat) (tag : Tag) (a : Option TimerAnswer) : State :=
  { serving [.wait d tag] with timerScript := [a], settleDebt := 50 }

/-- What a step leaves of a field. -/
def after {α : Type} (f : State → α) (s : State) : Option α := (nextState (step s)).map f

/-! ### WellFormed -/

/-- A PRINT is well formed exactly up to the length of R6. -/
theorem print_wellFormed_of_length (n : Nat) :
    (Instr.print (List.replicate n 0x41#8)).wellFormed = decide (n ≤ 65535) := by
  rw [Instr.wellFormed, List.length_replicate]

theorem test_print_too_long_is_ill_formed :
    (Instr.print (List.replicate 65536 0x41#8)).wellFormed = false :=
  (print_wellFormed_of_length _).trans (by decide)

theorem test_print_longest_is_well_formed :
    (Instr.print (List.replicate 65535 0x41#8)).wellFormed = true :=
  (print_wellFormed_of_length _).trans (by decide)

/-- The widths of R6 are those of the types. -/
theorem test_widths : Config.wReq = 32 ∧ Config.wErrInfo = 16 ∧ Config.wDelay = 28 := ⟨rfl, rfl, rfl⟩

/-! ### Decoding: words written out bit by bit from R84..R92 -/

/-- R84: OPC 0001, BW in bit 0. -/
theorem test_decode_init :
    decode ⟨0b00010000000000000000000000000000#32, []⟩ = .ok (.init .fourBit) ∧
    decode ⟨0b00010000000000000000000000000001#32, []⟩ = .ok (.init .eightBit) := by decide

/-- R85: OPC 0010, B in bits 7..0. -/
theorem test_decode_command :
    decode ⟨0b00100000000000000000000000001100#32, []⟩ = .ok (.command 0b00001100#8) := by decide

/-- R86: OPC 0011, C in bits 7..0. -/
theorem test_decode_writeChar :
    decode ⟨0b00110000000000000000000001001000#32, []⟩ = .ok (.writeChar 0b01001000#8) := by decide

/-- R87: OPC 0100, LEN in bits 15..0, the payload in order. -/
theorem test_decode_print :
    decode ⟨0b01000000000000000000000000000010#32, [0x48#8, 0x69#8]⟩ = .ok (.print [0x48#8, 0x69#8]) := by decide

/-- R88: OPC 0101, DIR in bit 1, ET in bit 0. -/
theorem test_decode_setEntryMode :
    decode ⟨0b01010000000000000000000000000010#32, []⟩ = .ok (.setEntryMode .rightToLeft false) ∧
    decode ⟨0b01010000000000000000000000000001#32, []⟩ = .ok (.setEntryMode .leftToRight true) := by decide

/-- R89: OPC 0110, ROW in bits 15..8, COL in bits 7..0. -/
theorem test_decode_setCursor :
    decode ⟨0b01100000000000000000000100000101#32, []⟩ = .ok (.setCursor 5#8 1#8) := by decide

/-- R90: OPC 0111, ADDR in bits 7..0. -/
theorem test_decode_setCgramAddr :
    decode ⟨0b01110000000000000000000000001000#32, []⟩ = .ok (.setCgramAddr 8#8) := by decide

/-- R91: OPC 1000 and 1001, no operands. -/
theorem test_decode_clear_home :
    decode ⟨0b10000000000000000000000000000000#32, []⟩ = .ok .clear ∧
    decode ⟨0b10010000000000000000000000000000#32, []⟩ = .ok .home := by decide

/-- R92, V-E12: OPC 1010, INTERVAL in bits 27..0. -/
theorem test_decode_delay :
    decode ⟨0b10100000000000000000000000100111#32, []⟩ = .ok (.delay 39#28) ∧
    decode ⟨0xAFFFFFFF#32, []⟩ = .ok (.delay 268435455#28) := by decide

/-- V-E1..V-E4: reserved opcodes and a reserved bit. -/
theorem test_decode_illegal_opcode_and_init_bit :
    decode ⟨0x00000000#32, []⟩ = .error .reservedOpcode ∧ decode ⟨0xB0000000#32, []⟩ = .error .reservedOpcode ∧
    decode ⟨0xF1234567#32, []⟩ = .error .reservedOpcode ∧ decode ⟨0x10000002#32, []⟩ = .error .reservedBits := by
  decide

/-- V-E5..V-E11: the lowest reserved bit of each row. -/
theorem test_decode_reserved_bits :
    decode ⟨0x20000100#32, []⟩ = .error .reservedBits ∧ decode ⟨0x40010000#32, []⟩ = .error .reservedBits ∧
    decode ⟨0x50000004#32, []⟩ = .error .reservedBits ∧ decode ⟨0x60010000#32, []⟩ = .error .reservedBits ∧
    decode ⟨0x70000100#32, []⟩ = .error .reservedBits ∧ decode ⟨0x80000001#32, []⟩ = .error .reservedBits ∧
    decode ⟨0x90000010#32, []⟩ = .error .reservedBits := by decide

/-- R87, R255: a PRINT with too few bytes is not complete; bytes beyond LEN are dropped (log entry 7). -/
theorem test_decode_print_payload :
    decode ⟨0x40000002#32, [0x48#8]⟩ = .error .payloadIncomplete ∧
    decode ⟨0x40000001#32, [0x48#8, 0x69#8]⟩ = .ok (.print [0x48#8]) := by decide

/-- Words of the opcode table as the host lays them out. -/
theorem test_decodeTableWord :
    decodeTableWord 32 0x90000000 = some .home ∧ decodeTableWord 32 0x40000001 = some (.print [0#8]) ∧
    decodeTableWord 32 0x10000002 = none := by decide

/-- The next step takes the placed word: INIT is accepted after reset. -/
theorem test_withFetchWord :
    after (fun t => (t.busy, t.cur)) (State.reset.withFetchWord 32 0x10000000) =
      some (true, some ⟨0x10000000#32, []⟩) := by decide

/-! ### STATUS -/

/-- R25, V-S8, V-E18: STATUS of Failed engines: a TIMER_ERROR, and the low half of a GPIO_ERROR on RS. -/
theorem test_status_errors :
    { idle .failed with code := .timerError }.statusWord = 0x00000722#32 ∧
    errPinNumber (some .rs) ++ 0#1 ++ BitVec.ofBool false ++ lifeNumber .failed ++ codeNumber .gpioError =
      0x121#11 := by decide

/-- R25, R280: the reset value of STATUS. -/
theorem test_status_reset : State.reset.statusWord = 0x00000700#32 := by decide

/-- RDY's STATUS (95_test_vectors.md §0), and BUSY in bit 6. -/
theorem test_status_ready : (idle .ready).statusWord = 0x00000710#32 ∧
    (serving []).statusWord = 0x00000750#32 := by decide

/-! ### Requests, one step each -/

/-- R141, R146, R148: INIT loads 75 micro-ops, its power-up wait first, and owes 50000 µs. -/
theorem test_init_accepted :
    after (fun t => (t.seq.length, t.seq.head?, t.settleDebt, t.sync)) (offered .uninitialized ⟨0x10000000#32, []⟩) =
      some (75, some (.wait 50000 .outside), 50000, false) := by decide

/-- V-I2, V-E16: INIT EightBit, and a second INIT. -/
theorem test_init_refused :
    after State.statusWord (offered .uninitialized ⟨0x10000001#32, []⟩) = some 0x00000705#32 ∧
    after State.statusWord (offered .ready ⟨0x10000000#32, []⟩) = some 0x00000716#32 := by decide

/-- R162: COMMAND 0x0C emits RS 0, nibble 0x0, nibble 0xC, and no wait. -/
theorem test_command_0C :
    after (fun t => okEvents t.seq) (offered .ready ⟨0x2000000C#32, []⟩) = some
      [ .pinEv .rs false .ok, .pinEv .d4 false .ok, .pinEv .d5 false .ok, .pinEv .d6 false .ok, .pinEv .d7 false .ok,
        .pinEv .en true .ok, .pinEv .en false .ok, .pinEv .d4 false .ok, .pinEv .d5 false .ok, .pinEv .d6 true .ok,
        .pinEv .d7 true .ok, .pinEv .en true .ok, .pinEv .en false .ok ] := by decide

/-- V-E13: COMMAND before INIT. -/
theorem test_command_not_ready :
    after State.statusWord (offered .uninitialized ⟨0x20000001#32, []⟩) = some 0x00000706#32 := by decide

/-- R164: WRITE_CHAR 'H' emits RS 1, nibble 0x4, nibble 0x8. -/
theorem test_writeChar_H :
    after (fun t => okEvents t.seq) (offered .ready ⟨0x30000048#32, []⟩) = some
      [ .pinEv .rs true .ok, .pinEv .d4 false .ok, .pinEv .d5 false .ok, .pinEv .d6 true .ok, .pinEv .d7 false .ok,
        .pinEv .en true .ok, .pinEv .en false .ok, .pinEv .d4 false .ok, .pinEv .d5 false .ok, .pinEv .d6 false .ok,
        .pinEv .d7 true .ok, .pinEv .en true .ok, .pinEv .en false .ok ] := by decide

/-- V-S7: PRINT "Hi" loads X(1, 0x48), W(320), X(1, 0x69), W(1530). -/
theorem test_print_Hi :
    after (fun t => okEvents t.seq) (offered .ready ⟨0x40000002#32, [0x48#8, 0x69#8]⟩) = some
      (byteEvents true 0x48#8 ++ waitEvents 320 ++ byteEvents true 0x69#8 ++ waitEvents 1530) := by decide

/-- V-E17, V-E6: PRINT before INIT, and PRINT with bit 16 set. -/
theorem test_print_refused :
    after State.statusWord (offered .uninitialized ⟨0x40000001#32, [0x78#8]⟩) = some 0x00000706#32 ∧
    after State.statusWord (offered .ready ⟨0x40010000#32, []⟩) = some 0x00000717#32 := by decide

/-- R193: SET_ENTRY_MODE LeftToRight, 1 sends nibbles 0x0 and 0x5, waits 39 and writes ENTRY_MODE. -/
theorem test_setEntryMode :
    after (fun t => (t.entryMode, okEvents t.seq)) (offered .ready ⟨0x50000001#32, []⟩) = some
      ({ dir := .leftToRight, et := true }, byteEvents false 0x05#8 ++ waitEvents 39) := by decide

/-- R214: SET_CURSOR 5, 1 sends 0xC5. -/
theorem test_setCursor :
    after (fun t => okEvents t.seq) (offered .ready ⟨0x60000105#32, []⟩) =
      some (byteEvents false 0xC5#8 ++ waitEvents 39) := by decide

/-- V-S2, V-E15: the corners of the range check, and NOT_READY before it. -/
theorem test_setCursor_refused :
    after State.statusWord (offered .ready ⟨0x60000010#32, []⟩) = some 0x00000714#32 ∧
    after State.statusWord (offered .ready ⟨0x60000200#32, []⟩) = some 0x00000714#32 ∧
    after State.statusWord (offered .uninitialized ⟨0x60000010#32, []⟩) = some 0x00000706#32 := by decide

/-- R217: SET_CGRAM_ADDR 8 sends 0x48 with RS 0. -/
theorem test_setCgramAddr :
    after (fun t => okEvents t.seq) (offered .ready ⟨0x70000008#32, []⟩) =
      some (byteEvents false 0x48#8 ++ waitEvents 39) := by decide

/-- V-S3, V-E19: 32 is refused, and in Failed NOT_READY comes first. -/
theorem test_setCgramAddr_refused :
    after State.statusWord (offered .ready ⟨0x70000020#32, []⟩) = some 0x00000713#32 ∧
    after State.statusWord (offered .failed ⟨0x70000028#32, []⟩) = some 0x00000726#32 := by decide

/-- R196: CLEAR sends nibbles 0x0 and 0x1, then waits 1530. -/
theorem test_clear :
    after (fun t => okEvents t.seq) (offered .ready ⟨0x80000000#32, []⟩) =
      some (byteEvents false 0x01#8 ++ waitEvents 1530) := by decide

/-- R201: HOME sends nibbles 0x0 and 0x2, then waits 1530, and leaves ENTRY_MODE. -/
theorem test_home :
    after (fun t => (t.entryMode, okEvents t.seq)) (offered .ready ⟨0x90000000#32, []⟩) = some
      ({ dir := .rightToLeft, et := false }, byteEvents false 0x02#8 ++ waitEvents 1530) := by decide

/-- R230: DELAY 39 is one wait. -/
theorem test_delay :
    after (fun t => t.seq) (offered .ready ⟨0xA0000027#32, []⟩) = some [.wait 39 .outside] := by decide

/-- V-E14, V-E21: DELAY before INIT, and an illegal word in Failed. -/
theorem test_delay_not_ready_and_illegal_first :
    after State.statusWord (offered .uninitialized ⟨0xA0000000#32, []⟩) = some 0x00000706#32 ∧
    after State.statusWord (offered .failed ⟨0x00000000#32, []⟩) = some 0x00000727#32 := by decide

/-! ### Micro-ops, one step each -/

/-- R116, R292: the last EN-low write of a byte unit sets the debt and advances. -/
theorem test_pin_end :
    after (fun t => (t.pinLvl.en, t.settleDebt, t.seqPc, t.trace))
      (servingPin .en false (.stop (.byte true 0x48#8)) (some .ok)) =
      some (.level false, 320, 1, [.pinEv .en false .ok]) := by decide

/-- R291, R295 (b): 0x30 is short and clears SYNC; 0x03 is long and does not. -/
theorem test_pin_end_classes :
    after (fun t => (t.settleDebt, t.sync)) (servingPin .en false (.stop (.byte false 0x30#8)) (some .ok)) =
      some (39, false) ∧
    after (fun t => (t.settleDebt, t.sync)) (servingPin .en false (.stop (.byte false 0x03#8)) (some .ok)) =
      some (1530, true) := by decide

/-- V-T4: a byte unit that starts with a debt is a hazard, whatever the port answers. -/
theorem test_pin_start_hazard :
    after (fun t => t.hazard)
      { servingPin .en true (.start (.byte false 0x01#8)) (some .ok) with settleDebt := 39 } = some true ∧
    after (fun t => t.hazard) (servingPin .en true (.start (.byte false 0x01#8)) (some .ok)) = some false := by
  decide

/-- R117, R246: a failed write of RS inside a unit: the line at X, Failed, ERR_PIN 1, SYNC 0. -/
theorem test_pin_error :
    after (fun t => (t.pinLvl.rs, t.status, t.sync, t.seq))
      (servingPin .rs true (.inside (.byte true 0x41#8)) (some (.err ⟨5⟩))) =
      some (.x, { code := .gpioError, life := .failed, busy := false, errPin := some .rs, errInfo := some ⟨5⟩ },
        false, []) := by decide

/-- R118: a wait lowers the debt, stopping at 0. -/
theorem test_wait_ok :
    after (fun t => t.settleDebt) (servingWait 39 .outside (some .ok)) = some 11 ∧
    after (fun t => t.settleDebt) (servingWait 1530 .outside (some .ok)) = some 0 := by decide

/-- V-Q2: a failed pulse wait is a TIMER_ERROR inside a unit; R119: one between units leaves SYNC. -/
theorem test_wait_error :
    after (fun t => (t.statusWord, t.sync, t.settleDebt)) (servingWait 1 (.inside (.byte false 0x0C#8)) (some .err)) =
      some (0x00000722#32, false, 50) ∧
    after (fun t => (t.statusWord, t.sync)) (servingWait 39 .outside (some .err)) = some (0x00000722#32, true) := by
  decide

/-- V-Q1: with P_T_PULSE = 1, COMMAND 0x0C is 15 micro-ops, the pulse wait before EN low. -/
theorem test_pulse_wait :
    (expandCommand { Config.engine with tPulse := 1 } 0x0C#8).length = 15 ∧
    okEvents ((expandCommand { Config.engine with tPulse := 1 } 0x0C#8).drop 5 |>.take 3) =
      [.pinEv .en true .ok, .waitEv 1 .ok, .pinEv .en false .ok] := by decide

/-! ### Witnesses: states and operands that meet the hypotheses of each obligation -/

theorem wit_ResetCutsARequestOffWithoutResponse :
    ({ serving (waitOps 39) with resetLine := [true] }).resetLine = true :: [] := rfl

theorem wit_DecodeOfEncodeIsIdentity :
    (Instr.print [0x48#8]).wellFormed = true ∧ (Instr.delay 268435455#28).wellFormed = true := by decide

/-- Every row's premise, at a word of that row. -/
theorem wit_DecoderFollowsTheWordTable :
    (0x10000001#32).toNat = 0x1 * 2 ^ 28 + 1 ∧ (0x200000FF#32).toNat = 0x2 * 2 ^ 28 + 255 ∧
    (0x30000100#32).toNat = 0x3 * 2 ^ 28 + 256 ∧ (0x40000001#32).toNat = 0x4 * 2 ^ 28 + 1 ∧ [0x48#8].length = 1 ∧
    (0x40010000#32).toNat = 0x4 * 2 ^ 28 + 65536 ∧ 65536 / 2 ^ 16 ≠ 0 ∧
    (0x50000003#32).toNat = 0x5 * 2 ^ 28 + 3 ∧ (0x6000FFFF#32).toNat = 0x6 * 2 ^ 28 + 65535 ∧
    (0x700000FF#32).toNat = 0x7 * 2 ^ 28 + 255 ∧ (0x80000000#32).toNat = 0x8 * 2 ^ 28 + 0 ∧
    (0x9FFFFFFF#32).toNat = 0x9 * 2 ^ 28 + 268435455 ∧ (0xAFFFFFFF#32).toNat = 0xA * 2 ^ 28 + 268435455 ∧
    (0x00000000#32).toNat = 0 * 2 ^ 28 + 0 ∧ (0xB0000000#32).toNat = 0xB * 2 ^ 28 + 0 ∧
    decode ⟨0x80000000#32, []⟩ = .ok .clear := by decide

theorem wit_DecoderFollowsTheWordTable_illegal :
    (offered .ready ⟨0#32, []⟩).busy = false ∧ (offered .ready ⟨0#32, []⟩).resetNow = false ∧
    (offered .ready ⟨0#32, []⟩).offers = ⟨0#32, []⟩ :: [] ∧ decode ⟨0#32, []⟩ = .error .reservedOpcode := by decide

/-- LEN exactly met, and LEN one more than the payload. -/
theorem wit_PrintTakesExactlyItsLenBytes :
    (1#16).toNat ≤ [0x48#8].length ∧ [0x48#8].length < (2#16).toNat ∧
    (offered .ready ⟨0x40000002#32, [0x48#8]⟩).busy = false ∧
    (offered .ready ⟨0x40000002#32, [0x48#8]⟩).resetNow = false ∧
    (offered .ready ⟨0x40000002#32, [0x48#8]⟩).offers = ⟨0x4#4 ++ 0#12 ++ 2#16, [0x48#8]⟩ :: [] := by decide

theorem wit_StepRunsTheAcceptedRequest :
    (offered .ready (encode .clear)).busy = false ∧ (offered .ready (encode .clear)).resetNow = false ∧
    (offered .ready (encode .clear)).offers = encode .clear :: [] ∧ decode (encode .clear) = .ok .clear := by decide

/-- A reserved opcode, and a reserved bit just above an operand. -/
theorem wit_IllegalWordsAreAnsweredIllegalRequest :
    (offered .ready ⟨0xB0000000#32, []⟩).busy = false ∧ (offered .ready ⟨0xB0000000#32, []⟩).resetNow = false ∧
    (offered .ready ⟨0xB0000000#32, []⟩).offers = ⟨0xB0000000#32, []⟩ :: [] ∧
    inOpcodeTable 0xB0000000#32 = false ∧ inOpcodeTable 0x50000004#32 = false := by decide

theorem wit_NotReadyRefusesAndChangesNothing :
    accepts (idle .ready).life (.init .fourBit) = false ∧ accepts (idle .uninitialized).life .clear = false ∧
    accepts (idle .failed).life (.setCursor 16#8 0#8) = false := by decide

/-- Each clause at the boundary of its range. -/
theorem wit_OutOfRangeOperandsAreRefused :
    (idle .uninitialized).life = .uninitialized ∧ (idle .ready).life = .ready ∧ 15 < (16#8 : Byte).toNat ∧
    1 < (2#8 : Byte).toNat ∧ 32 ≤ (32#8 : Byte).toNat := by decide

theorem wit_InitLoadsThePowerOnSequence : (idle .uninitialized).life = .uninitialized := rfl

/-- Of every obligation whose only premise is a Ready engine. -/
theorem wit_ReadyEngine : (idle .ready).life = .ready := rfl

theorem wit_AddressRequestsLoadTheirByteAndSettle :
    (idle .ready).life = .ready ∧ (15#8 : Byte).toNat ≤ 15 ∧ (1#8 : Byte).toNat ≤ 1 ∧ (31#8 : Byte).toNat < 32 := by
  decide

theorem wit_PinWriteAnsweredOk :
    let s := servingPin .en true (.start (.byte true 0x48#8)) (some .ok)
    s.busy = true ∧ s.resetNow = false ∧ s.seq[s.seqPc]? = some (.pin .en true (.start (.byte true 0x48#8))) ∧
      s.pinAnswer = some .ok := by decide

theorem wit_PinWriteAnsweredErr :
    let s := servingPin .en false (.stop (.resync 0x2#4 true)) (some (.err ⟨1⟩))
    s.busy = true ∧ s.resetNow = false ∧ s.seq[s.seqPc]? = some (.pin .en false (.stop (.resync 0x2#4 true))) ∧
      s.pinAnswer = some (.err ⟨1⟩) := by decide

theorem wit_WaitAnsweredOk :
    let s := servingWait 39 .outside (some .ok)
    s.busy = true ∧ s.resetNow = false ∧ s.seq[s.seqPc]? = some (.wait 39 .outside) ∧ s.timerAnswer = some .ok := by
  decide

theorem wit_WaitAnsweredErr :
    let s := servingWait 1 (.inside (.byte false 0x0C#8)) (some .err)
    s.busy = true ∧ s.resetNow = false ∧ s.seq[s.seqPc]? = some (.wait 1 (.inside (.byte false 0x0C#8))) ∧
      s.timerAnswer = some .err := by decide

theorem wit_CompletionAnswersOk :
    (serving []).busy = true ∧ (serving []).resetNow = false ∧ (serving []).seqPc = (serving []).seq.length := by
  decide

theorem wit_SilentPortsLeaveTheEngineStuck :
    (servingPin .rs true .outside none).busy = true ∧ (servingPin .rs true .outside none).resetNow = false ∧
    (servingPin .rs true .outside none).seq[0]? = some (.pin .rs true .outside) ∧
    (servingPin .rs true .outside none).pinAnswer = none ∧
    (servingWait 39 .outside none).busy = true ∧ (servingWait 39 .outside none).resetNow = false ∧
    (servingWait 39 .outside none).seq[0]? = some (.wait 39 .outside) ∧
    (servingWait 39 .outside none).timerAnswer = none := by decide

theorem wit_EngineIsNeverStuckByItsOwnRules :
    let s := answering 1 1 (offered .ready ⟨0x40000001#32, [0x48#8]⟩)
    none ∉ s.pinScript ∧ none ∉ s.timerScript ∧ s.seqPc ≤ s.seq.length ∧
      ∀ r ∈ s.offers, decode r ≠ .error .payloadIncomplete := by decide

/-- The state `withFetchWord` makes of the reset state: its reset input is listed as low. -/
theorem wit_InitRunsToReady :
    (answering 67 8 (State.reset.withFetchWord 32 0x10000000)).life = .uninitialized ∧
    (answering 67 8 (State.reset.withFetchWord 32 0x10000000)).Offers (encode (.init .fourBit)) [] 67 8 [] [] :=
  ⟨rfl, ⟨rfl, by decide, by decide, rfl, rfl⟩⟩

/-- A Ready engine offered `r`, its ports answering ok, its reset input low for exactly the steps of the run and
high after them. -/
def running (p w : Nat) (r : Request) : State :=
  { answering p w (offered .ready r) with resetLine := List.replicate (p + w + 2) false ++ [true] }

/-- Of the obligations about a whole request of a Ready engine: any request, with any number of ok answers. -/
theorem wit_Offers (r : Request) (p w : Nat) :
    (running p w r).life = .ready ∧ (running p w r).Offers r [] p w [] [] :=
  ⟨rfl, ⟨rfl, by simp [running], rfl, by simp [running, answering], by simp [running, answering]⟩⟩

/-- COMMAND, WRITE_CHAR, SET_ENTRY_MODE, CLEAR, HOME and DELAY, at concrete operands. -/
theorem wit_RequestsRunToOk :
    (running 13 0 (encode (.command 0x30#8))).Offers (encode (.command 0x30#8)) [] 13 0 [] [] ∧
    (running 13 0 (encode (.writeChar 0xFF#8))).Offers (encode (.writeChar 0xFF#8)) [] 13 0 [] [] ∧
    (running 13 1 (encode (.setEntryMode .leftToRight true))).Offers
      (encode (.setEntryMode .leftToRight true)) [] 13 1 [] [] ∧
    (running 13 1 (encode .clear)).Offers (encode .clear) [] 13 1 [] [] ∧
    (running 13 1 (encode .home)).Offers (encode .home) [] 13 1 [] [] ∧
    (running 0 1 (encode (.delay 0#28))).Offers (encode (.delay 0#28)) [] 0 1 [] [] :=
  ⟨(wit_Offers _ _ _).2, (wit_Offers _ _ _).2, (wit_Offers _ _ _).2, (wit_Offers _ _ _).2, (wit_Offers _ _ _).2,
    (wit_Offers _ _ _).2⟩

/-- One character, the longest payload, and the empty one. -/
theorem wit_PrintRunsToOk :
    (([] : List Byte) ++ [0x41#8]).length ≤ 65535 ∧ (List.replicate 65534 0x41#8 ++ [0x41#8]).length ≤ 65535 ∧
    (running 13 1 (encode (.print ([] ++ [0x41#8])))).Offers (encode (.print ([] ++ [0x41#8]))) []
      13 1 [] [] ∧
    (running 0 0 (encode (.print []))).Offers (encode (.print [])) [] 0 0 [] [] :=
  ⟨by decide, by rw [List.length_append, List.length_replicate]; decide, (wit_Offers _ _ _).2, (wit_Offers _ _ _).2⟩

/-- The corners of the grid and of the CGRAM range. -/
theorem wit_AddressRequestsRunToOk :
    (15#8 : Byte).toNat ≤ 15 ∧ (1#8 : Byte).toNat ≤ 1 ∧ (31#8 : Byte).toNat < 32 ∧
    (running 13 1 (encode (.setCursor 15#8 1#8))).Offers (encode (.setCursor 15#8 1#8)) []
      13 1 [] [] ∧
    (running 13 1 (encode (.setCgramAddr 31#8))).Offers (encode (.setCgramAddr 31#8)) []
      13 1 [] [] :=
  ⟨by decide, by decide, by decide, (wit_Offers _ _ _).2, (wit_Offers _ _ _).2⟩

/-- An INIT that completes. -/
def initDone : State := { serving [] with life := .uninitialized, cur := some (encode (.init .fourBit)) }

/-- Each of the three ways LIFE is written. -/
theorem wit_LifeIsWrittenOnlyByInitAndHardwareErrors :
    after State.life initDone = some .ready ∧ initDone.life = .uninitialized ∧
    after State.life (servingWait 39 .outside (some .err)) = some .failed ∧
    (servingWait 39 .outside (some .err)).life = .ready ∧
    after State.life { idle .failed with resetLine := [true] } = some .uninitialized := by decide

theorem wit_EntryModeIsWrittenOnlyBySetEntryMode :
    after (fun t => t.entryMode) (offered .ready (encode (.setEntryMode .leftToRight true))) =
      some { dir := .leftToRight, et := true } ∧
    (offered .ready (encode (.setEntryMode .leftToRight true))).entryMode = { dir := .rightToLeft, et := false } ∧
    (offered .ready (encode (.setEntryMode .leftToRight true))).resetNow = false := by decide

/-- A step that runs a micro-op, one that completes, and an idle one. -/
theorem wit_TraceGrowsInSeqOrder :
    let s := servingWait 39 .outside (some .ok)
    s.resetNow = false ∧ s.busy = true ∧ s.seq[s.seqPc]? = some (.wait 39 .outside) ∧
      after (fun t => t.trace) s = some [.waitEv 39 .ok] ∧
      (serving []).seq[(serving []).seqPc]? = none ∧ after (fun t => t.trace) (serving []) = some [] ∧
      (idle .ready).busy = false ∧ after (fun t => t.trace) (idle .ready) = some [] := by decide

theorem wit_SeqPcAdvancesByOneUntilTheResponse :
    let s := servingWait 39 .outside (some .ok)
    s.busy = true ∧ s.resetNow = false ∧ after (fun t => t.seqPc) s = some 1 := by decide

theorem wit_IdleStepTakesAtMostOneOffer :
    (idle .ready).busy = false ∧ (idle .ready).resetNow = false ∧ after State.offers (idle .ready) = some [] ∧
    (offered .ready (encode .clear)).busy = false ∧ (offered .ready (encode .clear)).resetNow = false ∧
    after State.offers (offered .ready (encode .clear)) = some [] := by decide

theorem wit_HazardIsSticky :
    let s := { offered .uninitialized (encode (.init .fourBit)) with hazard := true }
    s.resetNow = false ∧ s.hazard = true ∧ after State.hazard s = some false := by decide

theorem wit_FailedLastsUntilReset :
    let s := offered .failed (encode (.init .fourBit))
    s.life = .failed ∧ s.busy = false ∧ s.resetNow = false ∧ after State.life s = some .failed := by decide

/-- Two states with the same view that differ in the whole scoreboard and in a tag. -/
theorem wit_NoEngineRuleReadsTheScoreboard :
    (serving [.pin .en true (.start (.byte true 0x48#8))]).hardwareView =
      { serving [.pin .en true .outside] with settleDebt := 7, hazard := true, sync := false }.hardwareView ∧
    serving [.pin .en true (.start (.byte true 0x48#8))] ≠
      { serving [.pin .en true .outside] with settleDebt := 7, hazard := true, sync := false } := by decide

/-- A busy engine that meets the register invariant and has a next state. -/
theorem wit_StepKeepsTheRegisterInvariant :
    (servingWait 39 .outside (some .ok)).RegistersOk ∧
    after State.busy (servingWait 39 .outside (some .ok)) = some true :=
  ⟨⟨by decide, by decide, by decide, by decide, by decide, by decide, by decide, by decide⟩, by decide⟩

theorem wit_StepKeepsLevelsMatchingTrace :
    (servingPin .rs true (.inside (.byte true 0x48#8)) (some .ok)).LevelsMatchTrace ∧
    after State.busy (servingPin .rs true (.inside (.byte true 0x48#8)) (some .ok)) = some true :=
  ⟨rfl, by decide⟩

theorem wit_StepKeepsThePulsesBracketed :
    (answering 13 0 (serving (byteUnitOps true 0x48#8))).PulsesOk ∧
    after State.busy (answering 13 0 (serving (byteUnitOps true 0x48#8))) = some true :=
  ⟨⟨by decide, by decide, by decide⟩, by decide⟩

theorem wit_EverySuccessfulEnLowIsALatchEvent :
    eventsBracketed false (byteEvents true 0x48#8) = true ∧ eventsBracketed false [] = true := by decide

/-- The bounds of the range 0x30..0x3F. -/
theorem wit_SettleClasses :
    (0x30 ≤ (0x30#8 : Byte).toNat ∧ (0x30#8 : Byte).toNat ≤ 0x3F) ∧
    (0x30 ≤ (0x3F#8 : Byte).toNat ∧ (0x3F#8 : Byte).toNat ≤ 0x3F) := by decide

theorem wit_NoExpansionMakesAHazardByItself : Config.engine.Legal := Config.engine_legal

theorem wit_SettledRequestsNeverSetHazard :
    (answering 13 0 (serving (byteUnitOps true 0x48#8))).Settled ∧
    (answering 13 0 (serving (byteUnitOps true 0x48#8))).busy = true ∧
    after State.busy (answering 13 0 (serving (byteUnitOps true 0x48#8))) = some true :=
  ⟨⟨rfl, by decide⟩, rfl, by decide⟩

theorem wit_AcceptedRequestsAreSettled :
    (idle .uninitialized).life = .uninitialized ∧
    (nextState (exec (.init .fourBit) (idle .uninitialized))).isSome = true ∧
    let s := { idle .ready with sync := true }
    s.life = .ready ∧ s.settleDebt = 0 ∧ s.sync = true ∧ s.hazard = false ∧
      (nextState (exec (.writeChar 0x48#8) s)).isSome = true := by decide

/-- No pulse wait, and a pulse wait of 1 µs. -/
theorem wit_UnitCounts : Config.engine.tPulse = 0 ∧ 0 < { Config.engine with tPulse := 1 }.tPulse := by decide

theorem wit_PrintCounts :
    Config.engine.tPulse = 0 ∧ 0 < { Config.engine with tPulse := 1 }.tPulse ∧
    (List.replicate 65535 0x41#8).length = 65535 := ⟨rfl, by decide, List.length_replicate⟩

theorem wit_LeastTotalWaits : [0x48#8] ≠ [] := by decide

/-- The clauses of CursorCommandBytes and CgramCommandBytes at the bounds of their ranges. -/
theorem wit_AddressCommandBytes :
    (0#8 : Byte).toNat ≤ 15 ∧ (15#8 : Byte).toNat ≤ 15 ∧ 15 < (16#8 : Byte).toNat ∧ 1 < (2#8 : Byte).toNat ∧
    (31#8 : Byte).toNat < 32 ∧ (0x60 ≤ (0x60#8 : Byte).toNat ∧ (0x7F#8 : Byte).toNat ≤ 0x7F) ∧
    (idle .ready).life = .ready ∧ (idle .failed).life = .failed := by decide

end Sys2Proof.Machine.Tests
end

section
/-! The settle scoreboard over expansions (R292..R296): what each transfer unit and each settle wait do to it, and from
these that no expansion makes a hazard by itself. -/

namespace Sys2Proof.Machine

/-! ### Waits -/

/-- R294: a settle wait lowers the debt. -/
theorem settled_settleWait_append (debt d : Nat) (sync : Bool) (rest : List MicroOp) :
    settled debt sync (settleWait d ++ rest) = settled (debt - d) sync rest := rfl

@[simp] theorem settled_settleWait (debt d : Nat) (sync : Bool) : settled debt sync (settleWait d) = true := rfl

/-- A settle wait that covers the debt clears it. -/
theorem settled_settleWait_covering {debt d : Nat} (h : debt ≤ d) (sync : Bool) (rest : List MicroOp) :
    settled debt sync (settleWait d ++ rest) = settled 0 sync rest := by
  rw [settled_settleWait_append, Nat.sub_eq_zero_of_le h]

/-- R112: the pulse wait changes nothing when there is no debt. -/
@[simp] theorem settled_pulseWait_append (P : Params) (u : XferUnit) (sync : Bool) (rest : List MicroOp) :
    settled 0 sync (pulseWait P u ++ rest) = settled 0 sync rest := by
  unfold pulseWait
  split
  · simp [settled]
  · rfl

/-! ### Transfer units -/

/-- R113, R292, R293: a byte unit wants no debt and sync, and leaves its own settle time as the debt. -/
theorem settled_xfer_append (P : Params) (rs : Level) (b : Byte) (debt : Nat) (sync : Bool) (rest : List MicroOp) :
    settled debt sync (xfer P rs b ++ rest) =
      (decide (debt = 0) && sync && settled (settle (.byte rs b)) (syncAfter (.byte rs b) sync) rest) := by
  by_cases hdebt : debt = 0
  · subst hdebt
    simp [xfer, nib, settled, isByteUnit]
  · simp [xfer, nib, settled, hdebt]

/-- R114, R292, R293: a re-sync unit wants no debt, and leaves its own settle time as the debt. -/
theorem settled_xferNib_append (P : Params) (n : Nibble) (last : Bool) (debt : Nat) (sync : Bool)
    (rest : List MicroOp) :
    settled debt sync (xferNib P n last ++ rest) =
      (decide (debt = 0) && settled Config.sResync (last || sync) rest) := by
  by_cases hdebt : debt = 0
  · subst hdebt
    simp [xferNib, nib, settled, isByteUnit, settle, syncAfter]
  · simp [xferNib, nib, settled, hdebt]

/-- A byte unit begun with no debt and in sync makes no hazard, whatever its byte. -/
theorem settled_xfer (P : Params) (rs : Level) (b : Byte) : settled 0 true (xfer P rs b) = true := by
  simpa [settled] using settled_xfer_append P rs b 0 true []

/-- A byte unit and one wait after it make no hazard: the wait starts no unit, so it need not cover the settle time. -/
theorem settled_xfer_settleWait (P : Params) (rs : Level) (b : Byte) (d : Nat) :
    settled 0 true (xfer P rs b ++ settleWait d) = true := by
  simp [settled_xfer_append]

/-- A byte unit followed by a wait that covers its settle time leaves no debt. -/
theorem settled_xfer_covered (P : Params) {rs : Level} {b : Byte} {d : Nat} (h : settle (.byte rs b) ≤ d)
    (rest : List MicroOp) :
    settled 0 true (xfer P rs b ++ (settleWait d ++ rest)) = settled 0 (syncAfter (.byte rs b) true) rest := by
  simp [settled_xfer_append, settled_settleWait_covering h]

/-- A re-sync unit followed by a wait that covers its settle time leaves no debt. -/
theorem settled_xferNib_covered (P : Params) {d : Nat} (h : Config.sResync ≤ d) (n : Nibble) (last sync : Bool)
    (rest : List MicroOp) :
    settled 0 sync (xferNib P n last ++ (settleWait d ++ rest)) = settled 0 (last || sync) rest := by
  simp [settled_xferNib_append, settled_settleWait_covering h]

/-! ### Expansions -/

/-- R142, R146: the re-sync pattern leaves no debt, and its last unit sets `SYNC`. -/
theorem settled_expandResync_append {P : Params} (hP : P.Legal) (pattern : List Nibble) (sync : Bool)
    (rest : List MicroOp) :
    settled 0 sync (expandResync P pattern ++ rest) = settled 0 (sync || !pattern.isEmpty) rest := by
  induction pattern generalizing sync with
  | nil => simp [expandResync]
  | cons n pattern ih =>
    rw [expandResync, List.append_assoc, List.append_assoc, settled_xferNib_covered P hP.resync.1, ih]
    cases pattern <;> simp

/-- R168, R171 (e): between the characters of a PRINT, `P_T_CHAR` covers the settle time of data. -/
theorem settled_expandPrint {P : Params} (hP : P.Legal) (payload : List Byte) :
    settled 0 true (expandPrint P payload) = true := by
  induction payload using expandPrint.induct with
  | case1 => rfl
  | case2 c => exact settled_xfer_settleWait P true c P.tTail
  | case3 c d rest ih =>
    have hchar : settle (.byte true c) ≤ P.tChar := hP.char.1
    rw [expandPrint, List.append_assoc, settled_xfer_covered P hchar]
    exact ih

/-- R149 (d): INIT's waits cover the power-up time and every settle time, and its byte units come after the last re-sync
unit and keep `SYNC`. -/
theorem settled_expandInit {P : Params} (hP : P.Legal) (em : EntryMode) :
    settled Config.sPowerup false (expandInit P em) = true := by
  have hdisplay : settle (.byte false 0x0C#8) ≤ P.tShort := hP.short.1
  have hclear : settle (.byte false clearByte) ≤ P.tLong := hP.long.1
  have hdisplaySync : syncAfter (.byte false 0x0C#8) true = true := by decide
  have hclearSync : syncAfter (.byte false clearByte) true = true := by decide
  have hpattern : (false || !P.resync.isEmpty) = true := by rw [hP.pattern]; rfl
  simp only [expandInit, List.append_assoc]
  rw [settled_settleWait_covering hP.powerup.1, settled_expandResync_append hP, hpattern, hP.initDisplay,
    settled_xfer_covered P hdisplay, hdisplaySync, settled_xfer_covered P hclear, hclearSync]
  exact settled_xfer_settleWait P false (entryModeByte em) P.tShort

/-- Settles O48: INIT by its waits, PRINT by induction over its payload, every other request because it has at most one
transfer unit. -/
theorem noExpansionMakesAHazardByItself : Obligations.NoExpansionMakesAHazardByItself := by
  intro P hP
  exact ⟨settled_expandInit hP,
    settled_xfer P false,
    settled_xfer P true,
    settled_expandPrint hP,
    fun em => settled_xfer_settleWait P false (entryModeByte em) P.tShort,
    fun col row => settled_xfer_settleWait P false (cursorByte P col row) P.tShort,
    fun addr => settled_xfer_settleWait P false (cgramByte addr) P.tShort,
    settled_xfer_settleWait P false clearByte P.tLong,
    settled_xfer_settleWait P false homeByte P.tLong,
    fun interval => settled_settleWait 0 interval.toNat true⟩

end Sys2Proof.Machine
end

section
/-! What one step can do (R121, R281): completion, the acceptance actions and the answered micro-ops field by field, and
one inversion `StepEffect` of the whole step, from which the rules and invariants of the registers are read off. -/

namespace Sys2Proof.Machine

/-! ### Completion -/

theorem servesInit_iff (cur : Option Request) :
    servesInit cur = true ↔ ∃ r bw, cur = some r ∧ decode r = .ok (.init bw) := by
  unfold servesInit
  split
  · split
    case h_1 bw hinit => simp [hinit]
    case h_2 hother => simpa using hother
  · simp

/-- R120, R147: INIT's completion makes `LIFE` Ready, and no other request has a completion action. -/
theorem State.completionAction_eq (s : State) :
    s.completionAction = if servesInit s.cur = true then { s with life := .ready } else s := by
  unfold State.completionAction
  split
  case h_1 r hcur =>
    split
    case h_1 bw hinit => rw [if_pos ((servesInit_iff _).mpr ⟨r, bw, hcur, hinit⟩)]
    case h_2 hother =>
      have hno : ¬ servesInit s.cur = true := by simpa [servesInit_iff, hcur] using hother
      rw [if_neg hno]
  case h_2 hcur => simp [hcur, servesInit]

@[simp] theorem State.completionAction_life (s : State) :
    s.completionAction.life = if servesInit s.cur = true then .ready else s.life := by
  rw [State.completionAction_eq]
  split <;> rfl

@[simp] theorem State.complete_busy (s : State) : s.complete.busy = false := rfl
@[simp] theorem State.complete_code (s : State) : s.complete.code = .ok := rfl
@[simp] theorem State.complete_errPin (s : State) : s.complete.errPin = none := rfl
@[simp] theorem State.complete_errInfo (s : State) : s.complete.errInfo = none := rfl
@[simp] theorem State.complete_life (s : State) :
    s.complete.life = if servesInit s.cur = true then .ready else s.life := s.completionAction_life
@[simp] theorem State.complete_cur (s : State) : s.complete.cur = s.cur := s.completionAction_cur
@[simp] theorem State.complete_seq (s : State) : s.complete.seq = s.seq := s.completionAction_seq
@[simp] theorem State.complete_seqPc (s : State) : s.complete.seqPc = s.seqPc := s.completionAction_seqPc
@[simp] theorem State.complete_entryMode (s : State) : s.complete.entryMode = s.entryMode :=
  s.completionAction_entryMode
@[simp] theorem State.complete_pinLvl (s : State) : s.complete.pinLvl = s.pinLvl := s.completionAction_pinLvl
@[simp] theorem State.complete_trace (s : State) : s.complete.trace = s.trace := s.completionAction_trace
@[simp] theorem State.complete_hazard (s : State) : s.complete.hazard = s.hazard := s.completionAction_hazard
@[simp] theorem State.complete_offers (s : State) : s.complete.offers = s.offers := s.completionAction_offers
@[simp] theorem State.complete_responses (s : State) :
    s.complete.responses = s.responses ++ [s.complete.status] :=
  congrArg (· ++ [s.complete.status]) s.completionAction_responses

/-! ### Acceptance actions -/

@[simp] theorem acceptAction_life (i : Instr) (s : State) : (acceptAction i s).life = s.life := by
  cases i <;> rfl
@[simp] theorem acceptAction_code (i : Instr) (s : State) : (acceptAction i s).code = s.code := by
  cases i <;> rfl
@[simp] theorem acceptAction_busy (i : Instr) (s : State) : (acceptAction i s).busy = s.busy := by
  cases i <;> rfl
@[simp] theorem acceptAction_errPin (i : Instr) (s : State) : (acceptAction i s).errPin = s.errPin := by
  cases i <;> rfl
@[simp] theorem acceptAction_errInfo (i : Instr) (s : State) : (acceptAction i s).errInfo = s.errInfo := by
  cases i <;> rfl
@[simp] theorem acceptAction_cur (i : Instr) (s : State) : (acceptAction i s).cur = s.cur := by
  cases i <;> rfl
@[simp] theorem acceptAction_pinLvl (i : Instr) (s : State) : (acceptAction i s).pinLvl = s.pinLvl := by
  cases i <;> rfl
@[simp] theorem acceptAction_trace (i : Instr) (s : State) : (acceptAction i s).trace = s.trace := by
  cases i <;> rfl

/-- R190: of the acceptance actions only SET_ENTRY_MODE's writes `ENTRY_MODE`. -/
theorem acceptAction_entryMode (i : Instr) (s : State) :
    (acceptAction i s).entryMode = s.entryMode ∨
      ∃ dir et, i = .setEntryMode dir et ∧ (acceptAction i s).entryMode = { dir := dir, et := et } := by
  cases i
  case setEntryMode dir et => exact .inr ⟨dir, et, rfl, rfl⟩
  all_goals exact .inl rfl

/-- R146: of the acceptance actions only INIT's writes `HAZARD`. -/
theorem acceptAction_hazard (i : Instr) (s : State) :
    (acceptAction i s).hazard = s.hazard ∨ ∃ bw, i = .init bw := by
  cases i
  case init bw => exact .inr ⟨bw, rfl⟩
  all_goals exact .inl rfl

/-! ### Causes -/

/-- R240, R241: a cause that is no request error is a hardware error. -/
theorem Cause.isRequestError_eq_false_iff (c : Cause) :
    c.isRequestError = false ↔ c.code = .gpioError ∨ c.code = .timerError := by
  cases c <;> simp [Cause.isRequestError, Cause.code]

/-- R248: a hardware error makes `LIFE` Failed. -/
theorem Cause.life_of_hardwareError {c : Cause} (h : c.isRequestError = false) (l : Life) : c.life l = .failed := by
  cases c <;> simp_all [Cause.isRequestError, Cause.life]

theorem Cause.pin_isSome_iff (c : Cause) : c.pin.isSome = true ↔ c.code = .gpioError := by
  cases c <;> simp [Cause.pin, Cause.code]

theorem Cause.info_isSome_iff (c : Cause) : c.info.isSome = true ↔ c.code = .gpioError := by
  cases c <;> simp [Cause.info, Cause.code]

/-! ### A micro-op answered -/

@[simp] theorem MicroOp.answeredBy_pinEv (p : Line) (v : Level) (tag : Tag) (r : PinAnswer) :
    (MicroOp.pin p v tag).answeredBy (.pinEv p v r) = true := by
  simp [MicroOp.answeredBy]

@[simp] theorem MicroOp.answeredBy_waitEv (d : Nat) (tag : Tag) (r : TimerAnswer) :
    (MicroOp.wait d tag).answeredBy (.waitEv d r) = true := by
  simp [MicroOp.answeredBy]

/-- A step from `s` to `t` runs a micro-op whose answer is the event `ev` (R116..R119), whatever the answer is. -/
structure Answers (s t : State) (ev : Event) : Prop where
  entryMode : t.entryMode = s.entryMode
  cur : t.cur = s.cur
  offers : t.offers = s.offers
  trace : t.trace = s.trace ++ [ev]
  pinLvl : t.pinLvl = levelsStep s.pinLvl ev
  hazard : s.hazard = true → t.hazard = true

/-- From `s` to `t` the request goes on with its next micro-op (R116, R118). -/
structure Advances (s t : State) : Prop where
  life : t.life = s.life
  code : t.code = s.code
  busy : t.busy = s.busy
  errPin : t.errPin = s.errPin
  errInfo : t.errInfo = s.errInfo
  seq : t.seq = s.seq
  seqPc : t.seqPc = s.seqPc + 1
  responses : t.responses = s.responses

/-- From `s` to `t` the request ends with the error `c` (R246). -/
structure EndsInError (s t : State) (c : Cause) : Prop where
  life : t.life = c.life s.life
  code : t.code = c.code
  busy : t.busy = false
  errPin : t.errPin = c.pin
  errInfo : t.errInfo = c.info
  seq : t.seq = []
  seqPc : t.seqPc = 0
  responses : t.responses = s.responses ++ [t.status]

/-- R293: the unit-start check never clears `HAZARD`. -/
theorem State.unitStart_hazard_of_hazard {s : State} (h : s.hazard = true) (tag : Tag) :
    (s.unitStart tag).hazard = true := by
  cases tag <;> simp [h]

theorem answers_afterPinOk (s : State) (p : Line) (v : Level) (tag : Tag) :
    Answers s (afterPinOk s p v tag) (.pinEv p v .ok) := by
  constructor
  case hazard => intro h; simp [afterPinOk, State.unitStart_hazard_of_hazard h]
  all_goals simp [afterPinOk, levelsStep]

theorem answers_afterPinErr (s : State) (p : Line) (v : Level) (tag : Tag) (e : PinErr) :
    Answers s (afterPinErr s p v tag e) (.pinEv p v (.err e)) := by
  constructor
  case hazard => intro h; simp [afterPinErr, State.unitStart_hazard_of_hazard h]
  all_goals simp [afterPinErr, levelsStep]

theorem answers_afterWaitOk (s : State) (d : Nat) : Answers s (afterWaitOk s d) (.waitEv d .ok) := by
  constructor <;> simp [afterWaitOk, levelsStep]

theorem answers_afterWaitErr (s : State) (d : Nat) (tag : Tag) :
    Answers s (afterWaitErr s d tag) (.waitEv d .err) := by
  constructor <;> simp [afterWaitErr, levelsStep]

theorem advances_afterPinOk (s : State) (p : Line) (v : Level) (tag : Tag) :
    Advances s (afterPinOk s p v tag) := by
  constructor <;> simp [afterPinOk]

theorem advances_afterWaitOk (s : State) (d : Nat) : Advances s (afterWaitOk s d) := by
  constructor <;> simp [afterWaitOk]

theorem endsInError_raise (s : State) (c : Cause) : EndsInError s (s.raise c) c := by
  constructor <;> simp [State.status]

theorem endsInError_afterPinErr (s : State) (p : Line) (v : Level) (tag : Tag) (e : PinErr) :
    EndsInError s (afterPinErr s p v tag e) (.gpioError p e) := by
  constructor <;> simp [afterPinErr, State.status]

theorem endsInError_afterWaitErr (s : State) (d : Nat) (tag : Tag) :
    EndsInError s (afterWaitErr s d tag) .timerError := by
  constructor <;> simp [afterWaitErr, State.status]

/-! ### One step -/

/-- What one step from `s` to a next state can do: one constructor for each way. -/
inductive StepEffect (s : State) : State → Prop
  | reset (hreset : s.resetNow = true) : StepEffect s s.resetSampled.resetEngine
  | answered {t : State} (op : MicroOp) (ev : Event) (hreset : s.resetNow = false) (hbusy : s.busy = true)
      (hop : s.seq[s.seqPc]? = some op) (hanswer : op.answeredBy ev = true)
      (heffect : Answers s.resetSampled t ev)
      (hrest : Advances s.resetSampled t ∨
        ∃ c : Cause, ev.failed = true ∧ c.isRequestError = false ∧ EndsInError s.resetSampled t c) :
      StepEffect s t
  | completed (hreset : s.resetNow = false) (hbusy : s.busy = true) (hend : s.seqPc = s.seq.length) :
      StepEffect s s.resetSampled.complete
  | waited (hreset : s.resetNow = false) (hidle : s.busy = false) (hoffers : s.offers = []) :
      StepEffect s s.resetSampled
  | refused (r : Request) (rest : List Request) (c : Cause) (hreset : s.resetNow = false)
      (hidle : s.busy = false) (hoffers : s.offers = r :: rest) (hcause : c.isRequestError = true) :
      StepEffect s ((s.resetSampled.latch r rest).raise c)
  | accepted (r : Request) (rest : List Request) (i : Instr) (hreset : s.resetNow = false)
      (hidle : s.busy = false) (hoffers : s.offers = r :: rest) (hdecode : decode r = .ok i)
      (haccepts : accepts s.life i = true) (hwidth : i ≠ .init .eightBit) :
      StepEffect s
        ((acceptAction i (s.resetSampled.latch r rest)).load (expansion Config.engine s.entryMode i))

theorem stepEffect_of_busy {s t : State} (hreset : s.resetNow = false) (hbusy : s.busy = true)
    (h : busyStep s.resetSampled = .next t) : StepEffect s t := by
  obtain ⟨p, v, tag, hop, ⟨-, rfl⟩ | ⟨e, -, rfl⟩⟩ | ⟨d, tag, hop, ⟨-, rfl⟩ | ⟨-, rfl⟩⟩ | ⟨hend, rfl⟩ :=
    busyStep_cases h
  · exact .answered _ _ hreset hbusy hop (by simp) (answers_afterPinOk _ p v tag)
      (.inl (advances_afterPinOk _ p v tag))
  · exact .answered _ _ hreset hbusy hop (by simp) (answers_afterPinErr _ p v tag e)
      (.inr ⟨_, rfl, rfl, endsInError_afterPinErr _ p v tag e⟩)
  · exact .answered _ _ hreset hbusy hop (by simp) (answers_afterWaitOk _ d)
      (.inl (advances_afterWaitOk _ d))
  · exact .answered _ _ hreset hbusy hop (by simp) (answers_afterWaitErr _ d tag)
      (.inr ⟨_, rfl, rfl, endsInError_afterWaitErr _ d tag⟩)
  · exact .completed hreset hbusy hend

theorem stepEffect_of_idle {s t : State} (hreset : s.resetNow = false) (hidle : s.busy = false)
    (h : idleStep s.resetSampled = .next t) : StepEffect s t := by
  obtain ⟨hoffers, rfl⟩ | ⟨r, rest, hoffers, ⟨i, hdecode, hexec⟩ | ⟨-, rfl⟩⟩ := idleStep_cases h
  · exact .waited hreset hidle hoffers
  · obtain ⟨c, hcause, hraise⟩ | ⟨haccepts, hwidth, hload⟩ := exec_cases i (s.resetSampled.latch r rest)
    · cases hexec.symm.trans hraise
      exact .refused r rest c hreset hidle hoffers hcause
    · cases hexec.symm.trans hload
      exact .accepted r rest i hreset hidle hoffers hdecode haccepts hwidth
  · exact .refused r rest .illegalRequest hreset hidle hoffers rfl

/-- Everything a step can do, when it gives a next state. -/
theorem stepEffect_of_step {s t : State} (h : step s = .next t) : StepEffect s t := by
  obtain ⟨hreset, rfl⟩ | ⟨hreset, hbusy, h⟩ | ⟨hreset, hidle, h⟩ := step_cases h
  · exact .reset hreset
  · exact stepEffect_of_busy hreset hbusy h
  · exact stepEffect_of_idle hreset hidle h

end Sys2Proof.Machine
end

section
/-! Which steps write `LIFE`, `ENTRY_MODE`, `HAZARD`, `TRACE`, `SEQ_PC` and the responses, and what a Failed engine does
(R22, R24, R31, R32, R35, R248). -/

namespace Sys2Proof.Machine

/-- R22: the value 3 never occurs. -/
theorem lifeNumber_ne_three (l : Life) : lifeNumber l ≠ 3#2 := by
  cases l <;> decide

/-- R23: a Failed engine accepts no request. -/
theorem accepts_failed (i : Instr) : accepts .failed i = false := by
  cases i <;> rfl

theorem Advances.status {s t : State} (h : Advances s t) : t.status = s.status := by
  simp [State.status, h.code, h.life, h.busy, h.errPin, h.errInfo]

/-- Settles O34: of the ways of `StepEffect`, reset, a hardware error and INIT's completion write `LIFE`. -/
theorem lifeIsWrittenOnlyByInitAndHardwareErrors : Obligations.LifeIsWrittenOnlyByInitAndHardwareErrors := by
  refine ⟨⟨rfl, rfl, rfl, lifeNumber_ne_three, rfl⟩, fun s t hstep hlife => ?_⟩
  cases stepEffect_of_step hstep with
  | reset hreset => exact .inr (.inr ⟨hreset, rfl⟩)
  | answered op ev hreset hbusy _ _ heffect hrest =>
    obtain hadvances | ⟨c, hfailed, hcause, herror⟩ := hrest
    · exact absurd hadvances.life hlife
    · have hcode : t.code = .gpioError ∨ t.code = .timerError :=
        herror.code ▸ c.isRequestError_eq_false_iff.mp hcause
      exact .inr (.inl ⟨hreset, hbusy, herror.life.trans (Cause.life_of_hardwareError hcause _), hcode, ev,
        heffect.trace, hfailed⟩)
  | completed hreset hbusy hend =>
    have hinit : servesInit s.cur = true := by
      by_contra hno
      exact hlife (by simp [hno])
    exact .inl ⟨hreset, hbusy, hend, hinit, by simp [hinit], rfl⟩
  | waited => exact absurd rfl hlife
  | refused r rest c _ _ _ hcause => exact absurd (Cause.life_of_isRequestError hcause s.life) hlife
  | accepted => exact absurd (by simp) hlife

/-- Settles O35: of the ways of `StepEffect`, only an acceptance can write `ENTRY_MODE`, and then SET_ENTRY_MODE's. -/
theorem entryModeIsWrittenOnlyBySetEntryMode : Obligations.EntryModeIsWrittenOnlyBySetEntryMode := by
  intro s t hlow hstep hmode
  cases stepEffect_of_step hstep with
  | reset hreset => simp [hlow] at hreset
  | answered _ _ _ _ _ _ heffect => exact absurd heffect.entryMode hmode
  | completed => exact absurd (by simp) hmode
  | waited => exact absurd rfl hmode
  | refused => exact absurd rfl hmode
  | accepted r rest i _ hidle hoffers hdecode haccepts _ =>
    obtain hsame | ⟨dir, et, rfl, hwritten⟩ := acceptAction_entryMode i (s.resetSampled.latch r rest)
    · exact absurd hsame hmode
    · exact ⟨hidle, by simpa [accepts] using haccepts, r, rest, dir, et, hoffers, hdecode, hwritten⟩

/-- Settles O39: a micro-op keeps `HAZARD`, and of the acceptances only INIT's clears it. -/
theorem hazardIsSticky : Obligations.HazardIsSticky := by
  intro s t hlow hstep hset hcleared
  cases stepEffect_of_step hstep with
  | reset hreset => simp [hlow] at hreset
  | answered _ _ _ _ _ _ heffect => simp [heffect.hazard hset] at hcleared
  | completed => simp [hset] at hcleared
  | waited => simp [hset] at hcleared
  | refused => simp [hset] at hcleared
  | accepted r rest i _ hidle hoffers hdecode haccepts hwidth =>
    obtain hsame | ⟨bw, rfl⟩ := acceptAction_hazard i (s.resetSampled.latch r rest)
    · simp [hsame, hset] at hcleared
    · cases bw with
      | eightBit => exact absurd rfl hwidth
      | fourBit => exact ⟨hidle, by simpa [accepts] using haccepts, r, rest, hoffers, hdecode⟩

/-- Settles O40: an idle Failed engine can only wait or refuse, since it accepts nothing. -/
theorem failedLastsUntilReset : Obligations.FailedLastsUntilReset := by
  intro s t hfailed hidle hlow hstep
  cases stepEffect_of_step hstep with
  | reset hreset => simp [hlow] at hreset
  | answered _ _ _ hbusy => simp [hidle] at hbusy
  | completed _ hbusy => simp [hidle] at hbusy
  | waited => simp [hfailed, hidle]
  | refused r rest c _ _ _ hcause => simp [Cause.life_of_isRequestError hcause, hfailed]
  | accepted r rest i _ _ _ _ haccepts => simp [hfailed, accepts_failed] at haccepts

/-- Settles O36: an answered micro-op appends its event, and no other way of `StepEffect` but reset writes `TRACE` or a
line. -/
theorem traceGrowsInSeqOrder : Obligations.TraceGrowsInSeqOrder := by
  intro s t hlow hstep
  cases stepEffect_of_step hstep with
  | reset hreset => simp [hlow] at hreset
  | answered op ev _ hbusy hop hanswer heffect =>
    refine ⟨fun op' _ hop' => ?_, fun hnone => by simp [hbusy, hop] at hnone⟩
    obtain rfl : op = op' := Option.some.inj (hop.symm.trans hop')
    exact ⟨ev, heffect.trace, hanswer⟩
  | completed _ _ hend => simp [hend]
  | waited _ hidle => simp [hidle]
  | refused _ _ _ _ hidle => simp [hidle]
  | accepted _ _ _ _ hidle => simp [hidle]

/-- Settles O37: a busy engine advances, ends with a hardware error, or completes. -/
theorem seqPcAdvancesByOneUntilTheResponse : Obligations.SeqPcAdvancesByOneUntilTheResponse := by
  intro s t hbusy hlow hstep
  cases stepEffect_of_step hstep with
  | reset hreset => simp [hlow] at hreset
  | answered op ev _ _ _ _ heffect hrest =>
    refine ⟨heffect.cur, heffect.offers, heffect.entryMode, ?_⟩
    obtain hadvances | ⟨c, -, -, herror⟩ := hrest
    · exact .inl ⟨hadvances.busy.trans hbusy, hadvances.seq, hadvances.seqPc, hadvances.status, hadvances.responses⟩
    · exact .inr ⟨herror.busy, herror.responses⟩
  | completed => simp
  | waited _ hidle => simp [hbusy] at hidle
  | refused _ _ _ _ hidle => simp [hbusy] at hidle
  | accepted _ _ _ _ hidle => simp [hbusy] at hidle

end Sys2Proof.Machine
end

section
/-! The lines (R30, R31): every step keeps `PIN_LVL` equal to the fold of `TRACE`. -/

namespace Sys2Proof.Machine

theorem levelsAfter_append_singleton (es : List Event) (ev : Event) :
    levelsAfter (es ++ [ev]) = levelsStep (levelsAfter es) ev := by
  simp [levelsAfter]

/-- A state with the same trace and the same lines matches too. -/
theorem State.LevelsMatchTrace.congr {s t : State} (h : s.LevelsMatchTrace) (htrace : t.trace = s.trace)
    (hlevels : t.pinLvl = s.pinLvl) : t.LevelsMatchTrace := by
  unfold State.LevelsMatchTrace at h ⊢
  rw [hlevels, htrace, h]

theorem State.LevelsMatchTrace.answers {s t : State} {ev : Event} (h : s.LevelsMatchTrace) (heffect : Answers s t ev) :
    t.LevelsMatchTrace := by
  unfold State.LevelsMatchTrace at h ⊢
  rw [heffect.pinLvl, heffect.trace, levelsAfter_append_singleton, h]

/-- Settles O44: an answered micro-op does to the lines what its event says; no other step but reset touches them. -/
theorem stepKeepsLevelsMatchingTrace : Obligations.StepKeepsLevelsMatchingTrace := by
  intro s t hmatch hstep
  have hsampled : s.resetSampled.LevelsMatchTrace := hmatch
  cases stepEffect_of_step hstep with
  | reset => rfl
  | answered _ _ _ _ _ _ heffect => exact hsampled.answers heffect
  | completed => exact hsampled.congr (by simp) (by simp)
  | waited => exact hsampled
  | refused => exact hsampled.congr (by simp) (by simp)
  | accepted => exact hsampled.congr (by simp) (by simp)

end Sys2Proof.Machine
end

section
/-! The register invariant (R22, R28, R29, R32, R33, R110): every wait of an expansion fits the timer port, and each way
of `StepEffect` keeps `State.RegistersOk`. -/

namespace Sys2Proof.Machine

/-! ### Waits fit the timer port -/

@[simp] theorem waitsFit_nil : waitsFit [] = true := rfl

@[simp] theorem waitsFit_append (a b : List MicroOp) : waitsFit (a ++ b) = (waitsFit a && waitsFit b) := by
  simp [waitsFit]

theorem waitsFit_settleWait {d : Nat} (h : d < 2 ^ Config.wDelay) : waitsFit (settleWait d) = true := by
  simpa [waitsFit, settleWait] using h

theorem waitsFit_nib {P : Params} (hP : P.Legal) (n : Nibble) (u : XferUnit) (high low : Tag) :
    waitsFit (nib P n u high low) = true := by
  have hpulse : waitsFit (pulseWait P u) = true := by
    unfold pulseWait
    split
    · simpa [waitsFit] using hP.pulse
    · rfl
  simp only [nib, waitsFit_append, hpulse]
  rfl

theorem waitsFit_xfer {P : Params} (hP : P.Legal) (rs : Level) (b : Byte) : waitsFit (xfer P rs b) = true := by
  simp only [xfer, waitsFit_append, waitsFit_nib hP]
  rfl

theorem waitsFit_xferNib {P : Params} (hP : P.Legal) (n : Nibble) (last : Bool) :
    waitsFit (xferNib P n last) = true := by
  simp only [xferNib, waitsFit_append, waitsFit_nib hP]
  rfl

theorem waitsFit_expandResync {P : Params} (hP : P.Legal) (pattern : List Nibble) :
    waitsFit (expandResync P pattern) = true := by
  induction pattern with
  | nil => rfl
  | cons n rest ih =>
    simp [expandResync, waitsFit_xferNib hP, waitsFit_settleWait hP.resync.2, ih]

theorem waitsFit_expandPrint {P : Params} (hP : P.Legal) (payload : List Byte) :
    waitsFit (expandPrint P payload) = true := by
  induction payload using expandPrint.induct with
  | case1 => rfl
  | case2 c => simp [expandPrint, waitsFit_xfer hP, waitsFit_settleWait hP.tail.2.2]
  | case3 c d rest ih => simp [expandPrint, waitsFit_xfer hP, waitsFit_settleWait hP.char.2, ih]

/-- R110: with parameters R7 allows, every wait of every expansion fits the timer port. -/
theorem waitsFit_expansion {P : Params} (hP : P.Legal) (em : EntryMode) (i : Instr) :
    waitsFit (expansion P em i) = true := by
  have hshort := waitsFit_settleWait hP.short.2
  have hlong := waitsFit_settleWait hP.long.2
  cases i with
  | init bw =>
    simp [expansion, expandInit, waitsFit_settleWait hP.powerup.2, waitsFit_expandResync hP, waitsFit_xfer hP, hshort,
      hlong]
  | command b => exact waitsFit_xfer hP false b
  | writeChar c => exact waitsFit_xfer hP true c
  | print payload => exact waitsFit_expandPrint hP payload
  | setEntryMode dir et => simp [expansion, expandSetEntryMode, waitsFit_xfer hP, hshort]
  | setCursor col row => simp [expansion, expandSetCursor, waitsFit_xfer hP, hshort]
  | setCgramAddr addr => simp [expansion, expandSetCgramAddr, waitsFit_xfer hP, hshort]
  | clear => simp [expansion, expandClear, waitsFit_xfer hP, hlong]
  | home => simp [expansion, expandHome, waitsFit_xfer hP, hlong]
  | delay interval => exact waitsFit_settleWait interval.isLt

/-! ### What a busy engine serves -/

theorem servesLegal_of_decode {r : Request} {i : Instr} (h : decode r = .ok i) : servesLegal (some r) = true := by
  simp [servesLegal, h]

/-- R23: the INITs are the requests that Uninitialized accepts. -/
theorem servesInit_of_decode {r : Request} {i : Instr} (h : decode r = .ok i) :
    servesInit (some r) = accepts .uninitialized i := by
  cases i <;> simp [servesInit, h, accepts]

/-- R23: what Uninitialized accepts is accepted nowhere else. -/
theorem accepts_uninitialized_iff {l : Life} {i : Instr} (h : accepts l i = true) :
    accepts .uninitialized i = true ↔ l = .uninitialized := by
  cases i <;> cases l <;> simp_all [accepts]

/-! ### Each way of `StepEffect` -/

theorem registersOk_resetEngine (s : State) : s.resetEngine.RegistersOk where
  pcInRange := Nat.zero_le _
  waitsInRange := rfl
  errPinOnlyGpio := by simp
  errInfoOnlyGpio := by simp
  hardwareErrorFailed := by simp
  failedIdle _ := rfl
  busyLegal := by simp
  busyInit := by simp

theorem State.RegistersOk.resetSampled {s : State} (h : s.RegistersOk) : s.resetSampled.RegistersOk :=
  ⟨h.pcInRange, h.waitsInRange, h.errPinOnlyGpio, h.errInfoOnlyGpio, h.hardwareErrorFailed, h.failedIdle, h.busyLegal,
    h.busyInit⟩

theorem State.RegistersOk.advances {s t : State} (h : s.RegistersOk) (hpc : s.seqPc < s.seq.length)
    (hadvances : Advances s t) (hcur : t.cur = s.cur) : t.RegistersOk where
  pcInRange := by rw [hadvances.seqPc, hadvances.seq]; exact hpc
  waitsInRange := by rw [hadvances.seq]; exact h.waitsInRange
  errPinOnlyGpio := by rw [hadvances.errPin, hadvances.code]; exact h.errPinOnlyGpio
  errInfoOnlyGpio := by rw [hadvances.errInfo, hadvances.code]; exact h.errInfoOnlyGpio
  hardwareErrorFailed := by rw [hadvances.code, hadvances.life]; exact h.hardwareErrorFailed
  failedIdle := by rw [hadvances.life, hadvances.busy]; exact h.failedIdle
  busyLegal := by rw [hadvances.busy, hcur]; exact h.busyLegal
  busyInit := by rw [hadvances.busy, hcur, hadvances.life]; exact h.busyInit

/-- A request that ends with an error leaves the invariant, whatever held before it. -/
theorem EndsInError.registersOk {s t : State} {c : Cause} (h : EndsInError s t c) : t.RegistersOk where
  pcInRange := by simp [h.seqPc]
  waitsInRange := by simp [h.seq]
  errPinOnlyGpio := by rw [h.errPin, h.code]; exact c.pin_isSome_iff
  errInfoOnlyGpio := by rw [h.errInfo, h.code]; exact c.info_isSome_iff
  hardwareErrorFailed := by
    rw [h.code, h.life, ← c.isRequestError_eq_false_iff]
    exact fun hcause => Cause.life_of_hardwareError hcause s.life
  failedIdle _ := h.busy
  busyLegal := by simp [h.busy]
  busyInit := by simp [h.busy]

theorem State.RegistersOk.complete {s : State} (h : s.RegistersOk) : s.complete.RegistersOk where
  pcInRange := by simpa using h.pcInRange
  waitsInRange := by simpa using h.waitsInRange
  errPinOnlyGpio := by simp
  errInfoOnlyGpio := by simp
  hardwareErrorFailed := by simp
  failedIdle _ := rfl
  busyLegal := by simp
  busyInit := by simp

theorem State.RegistersOk.accepted {s : State} (h : s.RegistersOk) {r : Request} (rest : List Request)
    {i : Instr} (hdecode : decode r = .ok i) (haccepts : accepts s.life i = true) :
    ((acceptAction i (s.latch r rest)).load (expansion Config.engine s.entryMode i)).RegistersOk where
  pcInRange := by simp
  waitsInRange := waitsFit_expansion Config.engine_legal s.entryMode i
  errPinOnlyGpio := by simpa using h.errPinOnlyGpio
  errInfoOnlyGpio := by simpa using h.errInfoOnlyGpio
  hardwareErrorFailed := by simpa using h.hardwareErrorFailed
  failedIdle := by
    intro hfailed
    have hlife : s.life = .failed := by simpa using hfailed
    simp [hlife, accepts_failed] at haccepts
  busyLegal _ := by simpa using servesLegal_of_decode hdecode
  busyInit _ := by simpa [servesInit_of_decode hdecode] using accepts_uninitialized_iff haccepts

/-- Settles O43: each way of `StepEffect` keeps the invariant. -/
theorem stepKeepsTheRegisterInvariant : Obligations.StepKeepsTheRegisterInvariant := by
  intro s t hok hstep
  cases stepEffect_of_step hstep with
  | reset => exact registersOk_resetEngine s.resetSampled
  | answered op ev _ _ hop _ heffect hrest =>
    obtain hadvances | ⟨c, -, -, herror⟩ := hrest
    · obtain ⟨hpc, -⟩ := List.getElem?_eq_some_iff.mp hop
      exact hok.resetSampled.advances hpc hadvances heffect.cur
    · exact herror.registersOk
  | completed => exact hok.resetSampled.complete
  | waited => exact hok.resetSampled
  | refused r rest c => exact (endsInError_raise _ c).registersOk
  | accepted r rest i _ _ _ hdecode haccepts => exact hok.resetSampled.accepted rest hdecode haccepts

end Sys2Proof.Machine
end

section
/-! The scoreboard and the tags decide nothing (R34, R35, R36, R111): every operation commutes with
`State.hardwareView`, so the view of a next state is decided by the view of the state. -/

namespace Sys2Proof.Machine

/-! ### What the view keeps -/

@[simp] theorem MicroOp.untagged_untagged (op : MicroOp) : op.untagged.untagged = op.untagged := by
  cases op <;> rfl

@[simp] theorem State.hardwareView_hardwareView (s : State) : s.hardwareView.hardwareView = s.hardwareView := by
  simp [State.hardwareView, Function.comp_def]

@[simp] theorem State.hardwareView_life (s : State) : s.hardwareView.life = s.life := rfl
@[simp] theorem State.hardwareView_entryMode (s : State) : s.hardwareView.entryMode = s.entryMode := rfl
@[simp] theorem State.hardwareView_busy (s : State) : s.hardwareView.busy = s.busy := rfl
@[simp] theorem State.hardwareView_cur (s : State) : s.hardwareView.cur = s.cur := rfl
@[simp] theorem State.hardwareView_offers (s : State) : s.hardwareView.offers = s.offers := rfl
@[simp] theorem State.hardwareView_seq (s : State) : s.hardwareView.seq = s.seq.map MicroOp.untagged := rfl
@[simp] theorem State.hardwareView_seqPc (s : State) : s.hardwareView.seqPc = s.seqPc := rfl
@[simp] theorem State.hardwareView_resetNow (s : State) : s.hardwareView.resetNow = s.resetNow := rfl
@[simp] theorem State.hardwareView_pinAnswer (s : State) : s.hardwareView.pinAnswer = s.pinAnswer := rfl
@[simp] theorem State.hardwareView_timerAnswer (s : State) : s.hardwareView.timerAnswer = s.timerAnswer := rfl

/-! ### The operations on what the view keeps -/

@[simp] theorem State.setPin_hardwareView (s : State) (p : Line) (v : Shadow) :
    (s.setPin p v).hardwareView = s.hardwareView.setPin p v := rfl
@[simp] theorem State.emit_hardwareView (s : State) (ev : Event) :
    (s.emit ev).hardwareView = s.hardwareView.emit ev := rfl
@[simp] theorem State.advance_hardwareView (s : State) : s.advance.hardwareView = s.hardwareView.advance := rfl
@[simp] theorem State.respond_hardwareView (s : State) (c : Code) (p : Option Line) (e : Option PinErr) :
    (s.respond c p e).hardwareView = s.hardwareView.respond c p e := rfl
@[simp] theorem State.raise_hardwareView (s : State) (c : Cause) :
    (s.raise c).hardwareView = s.hardwareView.raise c := rfl
@[simp] theorem State.latch_hardwareView (s : State) (r : Request) (rest : List Request) :
    (s.latch r rest).hardwareView = s.hardwareView.latch r rest := rfl
@[simp] theorem State.load_hardwareView (s : State) (ops : List MicroOp) :
    (s.load ops).hardwareView = s.hardwareView.load (ops.map MicroOp.untagged) := rfl
@[simp] theorem State.setEntryMode_hardwareView (s : State) (em : EntryMode) :
    (s.setEntryMode em).hardwareView = s.hardwareView.setEntryMode em := rfl
@[simp] theorem State.resetSampled_hardwareView (s : State) :
    s.resetSampled.hardwareView = s.hardwareView.resetSampled := rfl

@[simp] theorem State.pinAnswered_hardwareView (s : State) :
    s.pinAnswered.hardwareView = s.hardwareView.pinAnswered := by
  cases h : s.pinScript <;> simp [State.pinAnswered, State.hardwareView, h]

@[simp] theorem State.timerAnswered_hardwareView (s : State) :
    s.timerAnswered.hardwareView = s.hardwareView.timerAnswered := by
  cases h : s.timerScript <;> simp [State.timerAnswered, State.hardwareView, h]

@[simp] theorem State.completionAction_hardwareView (s : State) :
    s.completionAction.hardwareView = s.hardwareView.completionAction := by
  rw [State.completionAction_eq, State.completionAction_eq, State.hardwareView_cur]
  split <;> rfl

@[simp] theorem State.complete_hardwareView (s : State) :
    s.complete.hardwareView = s.hardwareView.complete := by
  simp only [State.complete, State.respond_hardwareView, State.completionAction_hardwareView]

/-! ### The operations on the scoreboard leave the view -/

@[simp] theorem State.credit_hardwareView (s : State) (d : Nat) : (s.credit d).hardwareView = s.hardwareView := rfl
@[simp] theorem State.powerUp_hardwareView (s : State) : s.powerUp.hardwareView = s.hardwareView := rfl
@[simp] theorem State.unitStart_hardwareView (s : State) (tag : Tag) :
    (s.unitStart tag).hardwareView = s.hardwareView := by
  cases tag <;> rfl
@[simp] theorem State.unitEnd_hardwareView (s : State) (tag : Tag) :
    (s.unitEnd tag).hardwareView = s.hardwareView := by
  cases tag <;> rfl
@[simp] theorem State.unitCut_hardwareView (s : State) (tag : Tag) :
    (s.unitCut tag).hardwareView = s.hardwareView := by
  cases tag <;> rfl

/-! ### From micro-ops to the step -/

/-- What `f` makes of a state, seen without the scoreboard and the tags, is decided by the state seen so. -/
def ViewDetermined (f : State → Host.Outcome State Fault Refusal) : Prop :=
  ∀ s, mapNext State.hardwareView (f s.hardwareView) = mapNext State.hardwareView (f s)

/-- R111: a micro-op does to the view what it does without its tag. -/
theorem runMicroOp_untagged (op : MicroOp) (s : State) :
    mapNext State.hardwareView (runMicroOp op.untagged s.hardwareView) =
      mapNext State.hardwareView (runMicroOp op s) := by
  cases op with
  | pin p v tag =>
    simp only [MicroOp.untagged, runMicroOp, runPin, State.hardwareView_pinAnswer]
    rcases s.pinAnswer with _ | _ | e <;> simp [mapNext]
  | wait d tag =>
    simp only [MicroOp.untagged, runMicroOp, runWait, State.hardwareView_timerAnswer]
    rcases s.timerAnswer with _ | _ | _ <;> simp [mapNext]

theorem busyStep_viewDetermined : ViewDetermined busyStep := by
  intro s
  simp only [busyStep, State.hardwareView_seq, State.hardwareView_seqPc, List.getElem?_map, List.length_map]
  cases s.seq[s.seqPc]? with
  | some op => exact runMicroOp_untagged op s
  | none =>
    by_cases h : s.seqPc = s.seq.length
    · simp [h, mapNext]
    · simp [h, mapNext]

theorem State.acceptWhen_hardwareView {accepted : State → State}
    (h : ∀ s, (accepted s.hardwareView).hardwareView = (accepted s).hardwareView) (want : Life) (s : State) :
    (s.hardwareView.acceptWhen want accepted).hardwareView = (s.acceptWhen want accepted).hardwareView := by
  unfold State.acceptWhen
  by_cases hl : s.life = want
  · simp [hl, h]
  · simp [hl]

/-- Every request is accepted or refused by `LIFE` and its operands, and loads an expansion of `ENTRY_MODE`. -/
theorem exec_viewDetermined (i : Instr) : ViewDetermined (exec i) := by
  intro s
  cases i <;> refine congrArg Host.Outcome.next (State.acceptWhen_hardwareView (fun s => ?_) _ s)
  case init bw => cases bw <;> simp
  case setCursor col row => split <;> simp
  case setCgramAddr addr => split <;> simp
  all_goals simp

theorem acceptRequest_viewDetermined (r : Request) (rest : List Request) :
    ViewDetermined (acceptRequest r rest) := by
  intro s
  unfold acceptRequest
  split
  case h_1 i _ =>
    have hlatch := exec_viewDetermined i (s.latch r rest)
    rwa [State.latch_hardwareView] at hlatch
  case h_2 => rfl
  all_goals simp [mapNext]

theorem idleStep_viewDetermined : ViewDetermined idleStep := by
  intro s
  simp only [idleStep, State.hardwareView_offers]
  cases s.offers with
  | nil => simp [mapNext]
  | cons r rest => exact acceptRequest_viewDetermined r rest s

theorem engineStep_viewDetermined : ViewDetermined engineStep := by
  intro s
  simp only [engineStep, State.hardwareView_busy]
  cases s.busy
  · exact idleStep_viewDetermined s
  · exact busyStep_viewDetermined s

theorem step_viewDetermined : ViewDetermined step := by
  intro s
  simp only [step, machineStep, State.hardwareView_resetNow]
  cases s.resetNow
  · have hengine := engineStep_viewDetermined s.resetSampled
    rwa [State.resetSampled_hardwareView] at hengine
  · rfl

/-- Settles O41: two states with one view step to the view that this view decides. -/
theorem noEngineRuleReadsTheScoreboard : Obligations.NoEngineRuleReadsTheScoreboard := by
  intro s t hview
  rw [← step_viewDetermined s, hview, step_viewDetermined t]

end Sys2Proof.Machine
end

section
/-! The STATUS word's layout (R25), and the pin write answered ok with the scoreboard's classes in numbers (R116, R291,
R295 (b)). -/

namespace Sys2Proof.Machine

/-! ### STATUS -/

/-- R25: the fields of the word read back from their bits. -/
theorem extractLsb'_statusFields (info : BitVec 16) (pin : BitVec 3) (busy : BitVec 1) (life : BitVec 2)
    (code : BitVec 4) :
    let w := info ++ 0#5 ++ pin ++ 0#1 ++ busy ++ life ++ code
    w.extractLsb' 0 4 = code ∧ w.extractLsb' 4 2 = life ∧ w.extractLsb' 6 1 = busy ∧ w.extractLsb' 7 1 = 0#1 ∧
      w.extractLsb' 8 3 = pin ∧ w.extractLsb' 11 5 = 0#5 ∧ w.extractLsb' 16 16 = info := by
  refine ⟨BitVec.extractLsb'_append_eq_right, ?_, ?_, ?_, ?_, ?_, ?_⟩ <;>
    repeat rw [BitVec.extractLsb'_append_eq_of_le (by decide)]
  case refine_6 => exact BitVec.extractLsb'_eq_self
  all_goals exact BitVec.extractLsb'_append_eq_right

/-- R240: codes 8..15 never occur. -/
theorem codeNumber_lt (c : Code) : (codeNumber c).toNat < 8 := by
  cases c <;> decide

/-- Settles O3: the layout from the fields' positions, the numbers from their tables. -/
theorem statusWordLayout : Obligations.StatusWordLayout := by
  refine ⟨fun s => ?_, by decide, by decide, by decide, fun _ => rfl, rfl⟩
  obtain ⟨hcode, hlife, hbusy, hzero7, hpin, hzero11, hinfo⟩ := extractLsb'_statusFields (errInfoNumber s.errInfo)
    (errPinNumber s.errPin) (BitVec.ofBool s.busy) (lifeNumber s.life) (codeNumber s.code)
  exact ⟨hcode, hlife, hbusy, hzero7, hpin, hzero11, hinfo, hlife ▸ lifeNumber_ne_three s.life,
    hcode ▸ codeNumber_lt s.code⟩

/-! ### A pin write answered ok -/

/-- R295 (b): the bytes 0x30..0x3F are those whose high nibble is 0x3. -/
theorem leavesFourBit_eq (b : Byte) : leavesFourBit b = decide (0x30 ≤ b.toNat ∧ b.toNat ≤ 0x3F) := by
  have hnibble : leavesFourBit b = decide (b.toNat / 16 % 16 = 3) := by
    simp [leavesFourBit, hiNibble, BitVec.toNat_eq, beq_eq_decide, Nat.shiftRight_eq_div_pow]
  rw [hnibble, decide_eq_decide]
  have := b.isLt
  omega

/-- R291: the settle classes of the command bytes, in µs. -/
theorem settle_byte_command (b : Byte) :
    settle (.byte false b) = if b = 0x01#8 ∨ b = 0x02#8 ∨ b = 0x03#8 then 1530 else 39 := by
  simp [settle, longSettle, Config.sLong, Config.sShort, or_assoc]

/-- R295 (b): the bytes 0x30..0x3F, and no other command bytes, clear `SYNC`. -/
theorem syncAfter_byte_command (b : Byte) (sync : Bool) :
    syncAfter (.byte false b) sync = (sync && !decide (0x30 ≤ b.toNat ∧ b.toNat ≤ 0x3F)) := by
  rw [← leavesFourBit_eq]
  rfl

/-- R116: the state after a pin write that answered ok, field by field. -/
theorem afterPinOk_eq (s : State) (p : Line) (v : Level) (tag : Tag) :
    afterPinOk s p v tag =
      { s.pinAnswered with
        trace := s.trace ++ [.pinEv p v .ok]
        pinLvl := s.pinLvl.set p (.level v)
        hazard := (s.unitStart tag).hazard
        settleDebt := (s.unitEnd tag).settleDebt
        sync := (s.unitEnd tag).sync
        seqPc := s.seqPc + 1 } := by
  cases h : s.pinScript <;> cases tag <;>
    simp [afterPinOk, State.pinAnswered, State.unitStart, State.unitEnd, State.emit, State.setPin, State.advance, h]

theorem resetSampled_pinAnswered (s : State) : s.resetSampled.pinAnswered = s.pinAnswered.resetSampled := by
  cases h : s.pinScript <;> simp [State.pinAnswered, State.resetSampled, h]

/-- R116: the step of a pin write that answers ok. -/
theorem step_of_pin_ok {s : State} {p : Line} {v : Level} {tag : Tag} (hbusy : s.busy = true)
    (hlow : s.resetNow = false) (hop : s.seq[s.seqPc]? = some (.pin p v tag)) (hok : s.pinAnswer = some .ok) :
    step s = .next (afterPinOk s.resetSampled p v tag) := by
  have hop' : s.resetSampled.seq[s.resetSampled.seqPc]? = some (.pin p v tag) := hop
  have hok' : s.resetSampled.pinAnswer = some .ok := hok
  rw [step_of_busy hlow hbusy, busyStep, hop']
  simp [runMicroOp, runPin, hok', afterPinOk]

/-- Settles O18: the scoreboard is read off for each place a micro-op can have in a unit. -/
theorem pinWriteAnsweredOk : Obligations.PinWriteAnsweredOk := by
  intro s p v tag hbusy hlow hop hok
  rw [step_of_pin_ok hbusy hlow hop hok, afterPinOk_eq, resetSampled_pinAnswered]
  cases tag with
  | outside | inside u => simp [State.resetSampled]
  | start u => cases u <;> simp [State.resetSampled, isByteUnit]
  | stop u =>
    cases u with
    | byte rs b =>
      cases rs
      · simp [State.resetSampled, settle_byte_command, syncAfter_byte_command]
      · simp [State.resetSampled, settle, syncAfter, Config.sData]
    | resync n last => cases last <;> simp [State.resetSampled, settle, syncAfter, Config.sResync]

end Sys2Proof.Machine
end

section
/-! The enable pulses (R56, R57, R112): every expansion brackets stable nibbles and ends with EN low, and each way of a
step keeps `State.PulsesOk`. -/

namespace Sys2Proof.Machine

/-! ### Traces -/

theorem enHigh_append_singleton (es : List Event) (ev : Event) :
    enHigh (es ++ [ev]) = enHighStep (enHigh es) ev := by
  simp [enHigh]

theorem eventsBracketed_append (high : Bool) (es fs : List Event) :
    eventsBracketed high (es ++ fs) =
      (eventsBracketed high es && eventsBracketed (es.foldl enHighStep high) fs) := by
  induction es generalizing high with
  | nil => simp [eventsBracketed]
  | cons ev es ih => simp [eventsBracketed, ih, Bool.and_assoc]

/-! ### Micro-ops still to run -/

@[simp] theorem opsBracketed_nil (high : Bool) : opsBracketed high [] = !high := rfl

/-- The next micro-op is bracketed when its event is, and the others are bracketed after it. -/
theorem opsBracketed_cons (high : Bool) (op : MicroOp) (rest : List MicroOp) :
    opsBracketed high (op :: rest) =
      (eventsBracketed high [op.okEvent] && opsBracketed (enHighStep high op.okEvent) rest) := by
  cases op with
  | pin p v tag => cases p <;> cases v <;> simp [opsBracketed, eventsBracketed, MicroOp.okEvent]
  | wait d tag => simp [opsBracketed, eventsBracketed, MicroOp.okEvent]

/-- A micro-op's event is bracketed whatever its answer, when it is with the answer ok. -/
theorem eventsBracketed_of_answeredBy {high : Bool} {op : MicroOp} {ev : Event}
    (h : eventsBracketed high [op.okEvent] = true) (hanswer : op.answeredBy ev = true) :
    eventsBracketed high [ev] = true := by
  cases op with
  | pin p v tag =>
    cases ev with
    | pinEv q w r =>
      obtain ⟨rfl, rfl⟩ : p = q ∧ v = w := by simpa [MicroOp.answeredBy] using hanswer
      cases p <;> cases v <;> exact h
    | waitEv d r => simp [MicroOp.answeredBy] at hanswer
  | wait d tag =>
    cases ev with
    | pinEv q w r => simp [MicroOp.answeredBy] at hanswer
    | waitEv d r => rfl

/-- Bracketed micro-ops leave EN low, so bracketed micro-ops may follow them. -/
theorem opsBracketed_append {high : Bool} {a b : List MicroOp} (ha : opsBracketed high a = true)
    (hb : opsBracketed false b = true) : opsBracketed high (a ++ b) = true := by
  induction a generalizing high with
  | nil =>
    obtain rfl : high = false := by simpa using ha
    exact hb
  | cons op a ih =>
    rw [opsBracketed_cons, Bool.and_eq_true] at ha
    rw [List.cons_append, opsBracketed_cons, Bool.and_eq_true]
    exact ⟨ha.1, ih ha.2⟩

/-! ### Expansions -/

theorem opsBracketed_settleWait (d : Nat) : opsBracketed false (settleWait d) = true := rfl

theorem opsBracketed_writeRs (v : Level) (tag : Tag) : opsBracketed false [.pin .rs v tag] = true := rfl

/-- R112: a nibble is set up while EN is low, then EN is raised and lowered, with at most a wait between. -/
theorem opsBracketed_nib (P : Params) (n : Nibble) (u : XferUnit) (high low : Tag) :
    opsBracketed false (nib P n u high low) = true := by
  unfold nib pulseWait
  split <;> rfl

theorem opsBracketed_xfer (P : Params) (rs : Level) (b : Byte) : opsBracketed false (xfer P rs b) = true :=
  opsBracketed_append (opsBracketed_append (opsBracketed_writeRs _ _) (opsBracketed_nib ..)) (opsBracketed_nib ..)

theorem opsBracketed_xferNib (P : Params) (n : Nibble) (last : Bool) :
    opsBracketed false (xferNib P n last) = true :=
  opsBracketed_append (opsBracketed_writeRs _ _) (opsBracketed_nib ..)

theorem opsBracketed_xfer_settleWait (P : Params) (rs : Level) (b : Byte) (d : Nat) :
    opsBracketed false (xfer P rs b ++ settleWait d) = true :=
  opsBracketed_append (opsBracketed_xfer P rs b) (opsBracketed_settleWait d)

theorem opsBracketed_expandResync (P : Params) (pattern : List Nibble) :
    opsBracketed false (expandResync P pattern) = true := by
  induction pattern with
  | nil => rfl
  | cons n rest ih =>
    exact opsBracketed_append (opsBracketed_append (opsBracketed_xferNib ..) (opsBracketed_settleWait _)) ih

theorem opsBracketed_expandPrint (P : Params) (payload : List Byte) :
    opsBracketed false (expandPrint P payload) = true := by
  induction payload using expandPrint.induct with
  | case1 => rfl
  | case2 c => exact opsBracketed_xfer_settleWait P true c P.tTail
  | case3 c d rest ih => exact opsBracketed_append (opsBracketed_xfer_settleWait P true c P.tChar) ih

theorem opsBracketed_expandInit (P : Params) (em : EntryMode) : opsBracketed false (expandInit P em) = true :=
  have hresync := opsBracketed_append (opsBracketed_settleWait P.tPowerup) (opsBracketed_expandResync P P.resync)
  have hdisplay := opsBracketed_append hresync (opsBracketed_xfer_settleWait P false P.initDisplay P.tShort)
  have hclear := opsBracketed_append hdisplay (opsBracketed_xfer_settleWait P false clearByte P.tLong)
  opsBracketed_append hclear (opsBracketed_xfer_settleWait P false (entryModeByte em) P.tShort)

/-- R56, R57: every expansion begun with EN low brackets stable nibbles and leaves EN low, for every parameter set. -/
theorem opsBracketed_expansion (P : Params) (em : EntryMode) (i : Instr) :
    opsBracketed false (expansion P em i) = true := by
  cases i with
  | init bw => exact opsBracketed_expandInit P em
  | command b => exact opsBracketed_xfer P false b
  | writeChar c => exact opsBracketed_xfer P true c
  | print payload => exact opsBracketed_expandPrint P payload
  | setEntryMode dir et => exact opsBracketed_xfer_settleWait P false (entryModeByte ⟨dir, et⟩) P.tShort
  | setCursor col row => exact opsBracketed_xfer_settleWait P false (cursorByte P col row) P.tShort
  | setCgramAddr addr => exact opsBracketed_xfer_settleWait P false (cgramByte addr) P.tShort
  | clear => exact opsBracketed_xfer_settleWait P false clearByte P.tLong
  | home => exact opsBracketed_xfer_settleWait P false homeByte P.tLong
  | delay interval => exact opsBracketed_settleWait interval.toNat

/-! ### The step -/

/-- A request that is still running after a busy step had its micro-op answered ok (R116, R118). -/
theorem okEvent_of_busyStep {s t : State} (h : busyStep s = .next t) (hbusy : t.busy = true) :
    ∃ op, s.seq[s.seqPc]? = some op ∧ t.trace = s.trace ++ [op.okEvent] ∧ Advances s t := by
  obtain ⟨p, v, tag, hop, ⟨-, rfl⟩ | ⟨e, -, rfl⟩⟩ | ⟨d, tag, hop, ⟨-, rfl⟩ | ⟨-, rfl⟩⟩ | ⟨-, rfl⟩ :=
    busyStep_cases h
  · exact ⟨_, hop, (answers_afterPinOk s p v tag).trace, advances_afterPinOk s p v tag⟩
  · simp [(endsInError_afterPinErr s p v tag e).busy] at hbusy
  · exact ⟨_, hop, (answers_afterWaitOk s d).trace, advances_afterWaitOk s d⟩
  · simp [(endsInError_afterWaitErr s d tag).busy] at hbusy
  · simp at hbusy

theorem State.PulsesOk.resetSampled {s : State} (h : s.PulsesOk) : s.resetSampled.PulsesOk :=
  ⟨h.past, h.coming, h.idleLow⟩

/-- The micro-op that a busy engine is at, and those after it, are bracketed. -/
theorem State.PulsesOk.bracketed_at {s : State} (h : s.PulsesOk) (hbusy : s.busy = true) {op : MicroOp}
    (hop : s.seq[s.seqPc]? = some op) :
    eventsBracketed (enHigh s.trace) [op.okEvent] = true ∧
      opsBracketed (enHighStep (enHigh s.trace) op.okEvent) (s.seq.drop (s.seqPc + 1)) = true := by
  obtain ⟨hpc, rfl⟩ := List.getElem?_eq_some_iff.mp hop
  rw [← Bool.and_eq_true, ← opsBracketed_cons, List.getElem_cons_drop]
  exact h.coming hbusy

theorem State.PulsesOk.past_answered {s : State} (h : s.PulsesOk) (hbusy : s.busy = true) {op : MicroOp}
    (hop : s.seq[s.seqPc]? = some op) {ev : Event} (hanswer : op.answeredBy ev = true) :
    eventsBracketed false (s.trace ++ [ev]) = true := by
  rw [eventsBracketed_append, h.past, Bool.true_and]
  exact eventsBracketed_of_answeredBy (h.bracketed_at hbusy hop).1 hanswer

/-- A busy engine that goes on with its request still has bracketed micro-ops to run. -/
theorem State.PulsesOk.coming_busyStep {s t : State} (h : s.PulsesOk) (hbusy : s.busy = true)
    (hstep : busyStep s = .next t) (hgoes : t.busy = true) :
    opsBracketed (enHigh t.trace) (t.seq.drop t.seqPc) = true := by
  obtain ⟨op, hop, htrace, hadvances⟩ := okEvent_of_busyStep hstep hgoes
  rw [htrace, enHigh_append_singleton, hadvances.seq, hadvances.seqPc]
  exact (h.bracketed_at hbusy hop).2

/-- A request that ends without a hardware error has run all its micro-ops, so EN is low. -/
theorem State.PulsesOk.enLow_of_end {s : State} (h : s.PulsesOk) (hbusy : s.busy = true)
    (hend : s.seqPc = s.seq.length) : enHigh s.trace = false := by
  simpa [hend] using h.coming hbusy

theorem State.PulsesOk.refused {s : State} (h : s.PulsesOk) (hidle : s.busy = false) (r : Request)
    (rest : List Request) {c : Cause} (hcause : c.isRequestError = true) : ((s.latch r rest).raise c).PulsesOk where
  past := by simpa using h.past
  coming := by simp
  idleLow := by simpa [Cause.life_of_isRequestError hcause] using h.idleLow hidle

theorem State.PulsesOk.accepted {s : State} (h : s.PulsesOk) (hidle : s.busy = false) (r : Request)
    (rest : List Request) {i : Instr} (haccepts : accepts s.life i = true) :
    ((acceptAction i (s.latch r rest)).load (expansion Config.engine s.entryMode i)).PulsesOk where
  past := by simpa using h.past
  coming _ := by
    have hlive : s.life ≠ .failed := fun hfailed => by simp [hfailed, accepts_failed] at haccepts
    simpa [h.idleLow hidle hlive] using opsBracketed_expansion Config.engine s.entryMode i
  idleLow := by simp

/-- Settles O45: each way of `StepEffect` keeps the invariant. -/
theorem stepKeepsThePulsesBracketed : Obligations.StepKeepsThePulsesBracketed := by
  intro s t hok hstep
  cases stepEffect_of_step hstep with
  | reset => exact ⟨rfl, by simp, fun _ _ => rfl⟩
  | answered op ev hreset hbusy hop hanswer heffect hrest =>
    refine ⟨heffect.trace ▸ hok.past_answered hbusy hop hanswer,
      hok.resetSampled.coming_busyStep hbusy (step_of_busy hreset hbusy ▸ hstep), fun hidle hlive => ?_⟩
    obtain hadvances | ⟨c, -, hcause, herror⟩ := hrest
    · exact absurd (hadvances.busy.trans hbusy) (by simp [hidle])
    · exact absurd (herror.life.trans (Cause.life_of_hardwareError hcause _)) hlive
  | completed _ hbusy hend =>
    exact ⟨by simpa using hok.past, by simp, fun _ _ => by simpa using hok.enLow_of_end hbusy hend⟩
  | waited => exact hok.resetSampled
  | refused r rest c _ hidle _ hcause => exact hok.resetSampled.refused hidle r rest hcause
  | accepted r rest i _ hidle _ _ haccepts => exact hok.resetSampled.accepted hidle r rest haccepts

end Sys2Proof.Machine
end

section
/-! What the controller latches and what is delivered of it (R53..R58): the latch events of a bracketed trace, the two
latches of a byte unit, and the deliveries of PRINT and INIT. -/

namespace Sys2Proof.Machine

/-! ### Latch events of a bracketed trace -/

/-- R56: a latch event is a successful EN-low write whose last EN event was a successful EN high. -/
theorem isLatchEvent_eq (high : Bool) (ev : Event) :
    isLatchEvent high ev = (decide (ev = .pinEv .en false .ok) && high) := by
  by_cases h : ev = .pinEv .en false .ok
  · subst h
    simp [isLatchEvent]
  · unfold isLatchEvent
    split
    · exact absurd rfl h
    · simp [h]

theorem eventsBracketed_cons (high : Bool) (ev : Event) (es : List Event) :
    eventsBracketed high (ev :: es) = (eventsBracketed high [ev] && eventsBracketed (enHighStep high ev) es) :=
  eventsBracketed_append high [ev] es

/-- In a bracketed trace EN goes low only after it went high. -/
theorem high_of_eventsBracketed_enLow {high : Bool}
    (h : eventsBracketed high [.pinEv .en false .ok] = true) : high = true := by
  simpa [eventsBracketed] using h

/-- From any levels and any state of EN before it, a bracketed trace latches at each successful EN-low write. -/
theorem length_latchedFrom_of_eventsBracketed (l : PinLevels) {high : Bool} {es : List Event}
    (h : eventsBracketed high es = true) :
    (latchedFrom l high es).length = es.countP fun ev => decide (ev = .pinEv .en false .ok) := by
  induction es generalizing l high with
  | nil => rfl
  | cons ev es ih =>
    rw [eventsBracketed_cons, Bool.and_eq_true] at h
    obtain ⟨hev, hes⟩ := h
    have hrest := ih (levelsStep l ev) hes
    by_cases hlow : ev = .pinEv .en false .ok
    · subst hlow
      obtain rfl := high_of_eventsBracketed_enLow hev
      simp [latchedFrom, isLatchEvent_eq, hrest]
    · simp [latchedFrom, isLatchEvent_eq, hlow, hrest]

/-- Settles O46: by induction over the trace, from the levels and the EN line before it. -/
theorem everySuccessfulEnLowIsALatchEvent : Obligations.EverySuccessfulEnLowIsALatchEvent :=
  fun _ h => length_latchedFrom_of_eventsBracketed PinLevels.unknown h

/-! ### The latches of a unit -/

/-- The lines after the six events of a nibble: its levels on D4..D7, and EN low (R54). -/
def PinLevels.withNibble (l : PinLevels) (n : Nibble) : PinLevels :=
  { l with
    en := .level false, d4 := .level (n.getLsbD 0), d5 := .level (n.getLsbD 1), d6 := .level (n.getLsbD 2),
    d7 := .level (n.getLsbD 3) }

/-- R54, R57: the events of a nibble latch it once, with the RS level before it. -/
theorem latchedFrom_nibbleEvents_append (l : PinLevels) (high : Bool) (n : Nibble) (rest : List Event) :
    latchedFrom l high (nibbleEvents n ++ rest) =
      (l.withNibble n).latch :: latchedFrom (l.withNibble n) false rest := rfl

/-- Settles O55: one latch for each nibble, the high one first, after the RS write. -/
theorem byteUnitsLatchHighNibbleFirst : Obligations.ByteUnitsLatchHighNibbleFirst := by
  intro l rs b
  have hunit : latchedFrom l false (byteEvents rs b) =
      latchedFrom (l.set .rs (.level rs)) false
        (nibbleEvents (b.extractLsb' 4 4) ++ (nibbleEvents (b.extractLsb' 0 4) ++ [])) := rfl
  rw [hunit, latchedFrom_nibbleEvents_append, latchedFrom_nibbleEvents_append]
  simp [latchedFrom, PinLevels.latch, PinLevels.withNibble, PinLevels.set]

/-! ### The delivery of a unit -/

/-- R54: a nibble is made of the levels of its four lines. -/
theorem nibble_of_levels (n : Nibble) :
    BitVec.ofBool (n.getLsbD 3) ++ BitVec.ofBool (n.getLsbD 2) ++ BitVec.ofBool (n.getLsbD 1) ++
      BitVec.ofBool (n.getLsbD 0) = n := by
  revert n
  decide

@[simp] theorem PinLevels.nibble_withNibble (l : PinLevels) (n : Nibble) : (l.withNibble n).latch.nibble = some n :=
  congrArg some (nibble_of_levels n)

/-- R113: a byte is made of its high and its low nibble. -/
theorem hiNibble_append_loNibble (b : Byte) : hiNibble b ++ loNibble b = b :=
  (BitVec.extractLsb'_append_extractLsb'_eq_extractLsb' (start₁ := 0) (len₁ := 4) rfl).trans
    BitVec.extractLsb'_eq_self

/-- The first nibble of a unit delivers nothing: it is kept for the unit's end. -/
theorem deliveredFrom_firstNibble (l : PinLevels) (high : Bool) (n : Nibble) (rest : List Event) :
    deliveredFrom { levels := l, enHigh := high, pending := some [] } (nibbleEvents n ++ rest) =
      deliveredFrom
        { levels := l.withNibble n, enHigh := false, pending := some [(l.withNibble n).latch] } rest := rfl

/-- The second nibble of a unit makes it a byte unit, which it ends (R113). -/
theorem deliveredFrom_secondNibble (l : PinLevels) (high : Bool) (hi : Latch) (n : Nibble) (rest : List Event) :
    deliveredFrom { levels := l, enHigh := high, pending := some [hi] } (nibbleEvents n ++ rest) =
      deliverByte hi (l.withNibble n).latch ::
        deliveredFrom { levels := l.withNibble n, enHigh := false, pending := none } rest := rfl

/-- Outside every unit a wait delivers nothing. -/
theorem deliveredFrom_waitEvents_append {r : Reading} (h : r.pending = none) (d : Nat) (rest : List Event) :
    deliveredFrom r (waitEvents d ++ rest) = deliveredFrom r rest := by
  obtain ⟨l, high, pending⟩ := r
  obtain rfl : pending = none := h
  rfl

/-- R58: the latches of a byte's two nibbles deliver the byte, with the RS level of the second. -/
theorem deliverByte_withNibble {l m : PinLevels} {rs : Level} (hrs : m.rs = .level rs) (b : Byte) :
    deliverByte (l.withNibble (hiNibble b)).latch (m.withNibble (loNibble b)).latch = .byte rs b := by
  have hlatch : (m.withNibble (loNibble b)).latch.rs = .level rs := hrs
  simp [deliverByte, hlatch, hiNibble_append_loNibble]

/-- R55: the lines after the two nibbles of a byte unit. -/
theorem withNibble_withNibble_eq_busLevels (l : PinLevels) (rs : Level) (b : Byte) :
    ((l.set .rs (.level rs)).withNibble (hiNibble b)).withNibble (loNibble b) = busLevels rs b := by
  simp [PinLevels.withNibble, PinLevels.set, busLevels, loNibble]

/-- R58: a byte unit delivers its byte, whatever came before it, and a wait after it nothing. -/
theorem deliveredFrom_byteEvents_wait (r : Reading) (rs : Level) (b : Byte) (d : Nat) (rest : List Event) :
    deliveredFrom r (byteEvents rs b ++ waitEvents d ++ rest) =
      .byte rs b :: deliveredFrom { levels := busLevels rs b, enHigh := false, pending := none } rest := by
  have hunit : deliveredFrom r (byteEvents rs b ++ waitEvents d ++ rest) =
      deliveredFrom { levels := r.levels.set .rs (.level rs), enHigh := r.enHigh, pending := some [] }
        (nibbleEvents (hiNibble b) ++ (nibbleEvents (loNibble b) ++ (waitEvents d ++ rest))) := rfl
  rw [hunit, deliveredFrom_firstNibble, deliveredFrom_secondNibble, deliveredFrom_waitEvents_append rfl,
    deliverByte_withNibble rfl, withNibble_withNibble_eq_busLevels]

/-- R58: a re-sync unit and the wait after it deliver its nibble, whatever came before. -/
theorem deliveredFrom_resyncEvents_wait (r : Reading) (n : Nibble) (d : Nat) (rest : List Event) :
    deliveredFrom r (resyncEvents n ++ waitEvents d ++ rest) =
      .resync n :: deliveredFrom
        { levels := (r.levels.set .rs (.level false)).withNibble n, enHigh := false, pending := none } rest := by
  have hunit : deliveredFrom r (resyncEvents n ++ waitEvents d ++ rest) =
      deliverResync ((r.levels.set .rs (.level false)).withNibble n).latch :: deliveredFrom
        { levels := (r.levels.set .rs (.level false)).withNibble n, enHigh := false, pending := none } rest := rfl
  rw [hunit, deliverResync, PinLevels.nibble_withNibble]

/-! ### The deliveries of PRINT and INIT -/

/-- Settles O56: by induction over the payload, a byte unit and its wait at a time. -/
theorem printDeliversItsBytesInOrder : Obligations.PrintDeliversItsBytesInOrder := by
  intro r payload
  induction payload using printEvents.induct generalizing r with
  | case1 => rfl
  | case2 c =>
    have hlast := deliveredFrom_byteEvents_wait r true c 1530 []
    rwa [List.append_nil] at hlast
  | case3 c d rest ih =>
    rw [printEvents, deliveredFrom_byteEvents_wait, ih]
    rfl

/-- Settles O57: the power-on wait delivers nothing, then each unit and its wait deliver the unit's nibble or byte. -/
theorem initDeliversResyncThenThreeBytes : Obligations.InitDeliversResyncThenThreeBytes := by
  intro em
  have hunits : initEvents em = waitEvents 50000 ++ (resyncEvents 0x3#4 ++ waitEvents 150 ++
      (resyncEvents 0x3#4 ++ waitEvents 150 ++ (resyncEvents 0x3#4 ++ waitEvents 150 ++
      (resyncEvents 0x2#4 ++ waitEvents 150 ++ (byteEvents false 0x0C#8 ++ waitEvents 39 ++
      (byteEvents false 0x01#8 ++ waitEvents 1530 ++ (byteEvents false em ++ waitEvents 39 ++ []))))))) := by
    simp [initEvents]
  rw [deliveredStream, hunits, deliveredFrom_waitEvents_append rfl]
  simp only [deliveredFrom_resyncEvents_wait, deliveredFrom_byteEvents_wait, deliveredFrom]

end Sys2Proof.Machine
end

section
/-! The command bytes of the CGRAM addresses (R216, R217), the addresses that raise (R215), and a COMMAND that loads its
byte unit unchecked (R161, R162). -/

namespace Sys2Proof.Machine

/-- R216: the address bits stand below bit 6, so 0x40 is added to them. -/
theorem toNat_cgramByte {addr : Byte} (h : addr.toNat < 64) : (cgramByte addr).toNat = 0x40 + addr.toNat := by
  simpa [cgramByte] using (Nat.two_pow_add_eq_or_of_lt (i := 6) h 1).symm

/-- R215: in Ready an address at or above the limit raises INVALID_ADDR. -/
theorem exec_setCgramAddr_outOfRange {s : State} (hready : s.life = .ready) {addr : Byte} (h : 32 ≤ addr.toNat) :
    exec (.setCgramAddr addr) s = .next (s.answeredError .invalidAddr) := by
  have hinvalid : cgramValid Config.engine addr = false := decide_eq_false (Nat.not_lt.mpr h)
  simp [exec, execSetCgramAddr, State.acceptWhen, hready, hinvalid,
    State.raise_eq_answeredError (c := .invalidAddr) rfl, Cause.code]

/-- R112, R113: with the engine's parameters no pulse wait stands in a byte unit. -/
theorem xfer_engine (rs : Level) (b : Byte) : xfer Config.engine rs b = byteUnitOps rs b := by
  simp [xfer, nib, pulseWait, byteUnitOps, nibbleLevel, hiNibble, loNibble]

/-- R161, R162: in Ready a COMMAND loads its byte unit, whatever its byte. -/
theorem exec_command_ready {s : State} (hready : s.life = .ready) (b : Byte) :
    exec (.command b) s = .next (s.load (byteUnitOps false b)) := by
  simp [exec, execCommand, State.acceptWhen, hready, expandCommand, xfer_engine]

/-- Settles O60: the byte by its arithmetic, the corners by evaluation, the clauses about Ready by what `exec` does. -/
theorem cgramCommandBytes : Obligations.CgramCommandBytes :=
  ⟨fun _ h => toNat_cgramByte (by omega), by decide, by decide, fun _ hready =>
    ⟨exec_setCgramAddr_outOfRange hready (by decide), exec_setCgramAddr_outOfRange hready (by decide),
      fun b _ => exec_command_ready hready b⟩⟩

end Sys2Proof.Machine
end

section
/-! The word format (R81..R92) in arithmetic: a word is `op * 2 ^ 28 + area`, the decoder is a table of `op` and `area`,
and the encoder writes the one pair that the table reads. -/

namespace Sys2Proof

/-! ### A word's fields -/

theorem toNat_append_eq {n m : Nat} (x : BitVec n) (y : BitVec m) : (x ++ y).toNat = x.toNat * 2 ^ m + y.toNat := by
  rw [BitVec.toNat_append, ← Nat.shiftLeft_add_eq_or_of_lt y.isLt, Nat.shiftLeft_eq]

theorem toNat_zeros_append (op : BitVec 4) (n : Nat) {m : Nat} (x : BitVec m) :
    (op ++ 0#n ++ x).toNat = op.toNat * 2 ^ (n + m) + x.toNat := by
  rw [toNat_append_eq, toNat_append_eq, BitVec.toNat_ofNat, Nat.zero_mod, Nat.add_zero, Nat.mul_assoc, ← Nat.pow_add]

theorem ofNat_mod_two_pow (m n : Nat) : BitVec.ofNat m (n % 2 ^ m) = BitVec.ofNat m n := by
  simp [← BitVec.toNat_inj]

section WordParts

variable {w : Word} {op area : Nat}

/-- R81: `OPC` is the number above bit 28. -/
theorem opc_eq_iff (hw : w.toNat = op * 2 ^ 28 + area) (harea : area < 2 ^ 28) (k : BitVec 4) :
    opc w = k ↔ op = k.toNat := by
  have hlt := w.isLt
  have hop : (opc w).toNat = op := by
    rw [opc, BitVec.extractLsb'_toNat, Nat.shiftRight_eq_div_pow]
    omega
  rw [BitVec.toNat_eq, hop]

/-- R8, R93: a field below bit 28 is a part of the area. -/
theorem field_eq (hw : w.toNat = op * 2 ^ 28 + area) {lo len : Nat} (hfits : lo + len ≤ 28) :
    field w lo len = BitVec.ofNat len (area / 2 ^ lo) := by
  obtain ⟨k, hk⟩ := Nat.exists_eq_add_of_le hfits
  apply BitVec.eq_of_toNat_eq
  rw [field, BitVec.extractLsb'_toNat, BitVec.toNat_ofNat, Nat.shiftRight_eq_div_pow, hw, hk]
  have : op * 2 ^ (lo + len + k) + area = area + 2 ^ lo * (2 ^ len * (2 ^ k * op)) := by ring
  rw [this, Nat.add_mul_div_left _ _ (by positivity), Nat.add_mul_mod_self_left]

/-- R81: the reserved bits are the area above the operands. -/
theorem reservedZero_iff (hw : w.toNat = op * 2 ^ 28 + area) (harea : area < 2 ^ 28) {lo : Nat} (hlo : lo ≤ 28) :
    reservedZero w lo = true ↔ area / 2 ^ lo = 0 := by
  have hfield : w.extractLsb' lo (28 - lo) = BitVec.ofNat (28 - lo) (area / 2 ^ lo) := field_eq hw (by omega)
  have hlt : area / 2 ^ lo < 2 ^ (28 - lo) :=
    Nat.div_lt_of_lt_mul (by rwa [← pow_add, Nat.add_sub_cancel' hlo])
  rw [reservedZero, beq_iff_eq, hfield, BitVec.toNat_eq, BitVec.toNat_ofNat, Nat.mod_eq_of_lt hlt]
  rfl

end WordParts

/-! ### The payload -/

theorem hasAtLeast_eq {α : Type} (xs : List α) (n : Nat) : hasAtLeast xs n = decide (n ≤ xs.length) := by
  induction xs generalizing n with
  | nil => cases n <;> simp [hasAtLeast]
  | cons x xs ih => cases n <;> simp [hasAtLeast, ih]

theorem decodePrint_eq (len : Nat) (payload : List Byte) :
    decodePrint len payload =
      if len ≤ payload.length then .ok (.print (payload.take len)) else .error .payloadIncomplete := by
  simp [decodePrint, hasAtLeast_eq]

/-! ### The table -/

/-- A row of R83 whose operands stand below bit `lo` of the area. -/
def tableRow (area lo : Nat) (r : Except DecodeError Instr) : Except DecodeError Instr :=
  if area / 2 ^ lo = 0 then r else .error .reservedBits

theorem tableRow_of_lt {area lo : Nat} (h : area < 2 ^ lo) (r : Except DecodeError Instr) : tableRow area lo r = r :=
  if_pos (Nat.div_eq_of_lt h)

/-- The table of R83 in the arithmetic of a word's opcode and operand area. -/
def wordTable (op area : Nat) (payload : List Byte) : Except DecodeError Instr :=
  match op with
  | 0x1 => tableRow area 1 (.ok (.init (if area = 1 then .eightBit else .fourBit)))
  | 0x2 => tableRow area 8 (.ok (.command (BitVec.ofNat 8 area)))
  | 0x3 => tableRow area 8 (.ok (.writeChar (BitVec.ofNat 8 area)))
  | 0x4 => tableRow area 16 (decodePrint area payload)
  | 0x5 => tableRow area 2
      (.ok (.setEntryMode (if area / 2 = 1 then .rightToLeft else .leftToRight) (area % 2 == 1)))
  | 0x6 => tableRow area 16 (.ok (.setCursor (BitVec.ofNat 8 (area % 2 ^ 8)) (BitVec.ofNat 8 (area / 2 ^ 8))))
  | 0x7 => tableRow area 8 (.ok (.setCgramAddr (BitVec.ofNat 8 area)))
  | 0x8 => tableRow area 0 (.ok .clear)
  | 0x9 => tableRow area 0 (.ok .home)
  | 0xA => .ok (.delay (BitVec.ofNat 28 area))
  | _ => .error .reservedOpcode

theorem wordTable_reservedOpcode {op : Nat} (h : op = 0 ∨ 0xB ≤ op) (area : Nat) (payload : List Byte) :
    wordTable op area payload = .error .reservedOpcode := by
  unfold wordTable
  split
  case h_11 => rfl
  all_goals omega

section DecodeRows

variable {w : Word} {op area : Nat}

theorem unlessReserved_eq_tableRow (hw : w.toNat = op * 2 ^ 28 + area) (harea : area < 2 ^ 28) {lo : Nat}
    (hlo : lo ≤ 28) {r r' : Except DecodeError Instr} (hr : area < 2 ^ lo → r = r') :
    unlessReserved w lo r = tableRow area lo r' := by
  simp only [unlessReserved, tableRow, reservedZero_iff hw harea hlo]
  exact ite_congr rfl (fun h => hr ((Nat.div_eq_zero_iff_lt (by positivity)).mp h)) fun _ => rfl

/-- R84: `BW`. -/
theorem busWidthOf_field (hw : w.toNat = op * 2 ^ 28 + area) (harea : area < 2) :
    busWidthOf (field w 0 1) = if area = 1 then .eightBit else .fourBit := by
  rw [field_eq hw (by decide)]
  interval_cases area <;> rfl

/-- R88: `DIR` and `ET`. -/
theorem entryMode_field (hw : w.toNat = op * 2 ^ 28 + area) (harea : area < 4) :
    directionOf (field w 1 1) = (if area / 2 = 1 then .rightToLeft else .leftToRight) ∧
      (field w 0 1 == 1#1) = (area % 2 == 1) := by
  rw [field_eq hw (by decide), field_eq hw (by decide)]
  interval_cases area <;> decide

/-- R83: the decoder is the table. -/
theorem decode_eq_wordTable (hw : w.toNat = op * 2 ^ 28 + area) (harea : area < 2 ^ 28) (payload : List Byte) :
    decode ⟨w, payload⟩ = wordTable op area payload := by
  have hopc := opc_eq_iff hw harea
  have hfield (len : Nat) (hlen : len ≤ 28) : field w 0 len = BitVec.ofNat len area := by
    simpa using field_eq (lo := 0) (len := len) hw (by omega)
  unfold wordTable
  split
  case h_11 => simp_all [decode] -- every test of the decoder fails
  all_goals
    simp only [decode, hopc, BitVec.toNat_ofNat, Nat.reducePow, Nat.reduceMod, Nat.reduceEqDiff, if_true, if_false]
  case h_1 =>
    exact unlessReserved_eq_tableRow hw harea (by decide) fun h => by rw [busWidthOf_field hw h]
  case h_2 | h_3 | h_7 =>
    exact unlessReserved_eq_tableRow hw harea (by decide) fun _ => by rw [hfield 8 (by decide)]
  case h_4 =>
    exact unlessReserved_eq_tableRow hw harea (by decide) fun h => by
      rw [hfield 16 (by decide), BitVec.toNat_ofNat, Nat.mod_eq_of_lt h]
  case h_5 =>
    exact unlessReserved_eq_tableRow hw harea (by decide) fun h => by
      obtain ⟨hdir, het⟩ := entryMode_field hw h
      rw [hdir, het]
  case h_6 =>
    exact unlessReserved_eq_tableRow hw harea (by decide) fun _ => by
      rw [hfield 8 (by decide), field_eq hw (by decide), ← ofNat_mod_two_pow 8 area]
      rfl
  case h_8 | h_9 => exact unlessReserved_eq_tableRow hw harea (by decide) fun _ => rfl
  case h_10 => rw [hfield 28 (by decide)]

end DecodeRows

theorem decode_eq_wordTable_parts (r : Request) :
    decode r = wordTable (r.word.toNat / 2 ^ 28) (r.word.toNat % 2 ^ 28) r.payload :=
  decode_eq_wordTable (Nat.div_add_mod' _ _).symm (Nat.mod_lt _ (by decide)) r.payload

/-! ### The encoder -/

/-- The opcode of a request (R82). -/
def opcodeOf : Instr → Nat
  | .init _ => 0x1
  | .command _ => 0x2
  | .writeChar _ => 0x3
  | .print _ => 0x4
  | .setEntryMode _ _ => 0x5
  | .setCursor _ _ => 0x6
  | .setCgramAddr _ => 0x7
  | .clear => 0x8
  | .home => 0x9
  | .delay _ => 0xA

/-- The operand area of a request's word, bits [27:0] (R84..R92). -/
def areaOf : Instr → Nat
  | .init bw => (busWidthBit bw).toNat
  | .command b => b.toNat
  | .writeChar c => c.toNat
  | .print payload => payload.length % 2 ^ 16
  | .setEntryMode dir et => (directionBit dir).toNat * 2 + (etBit et).toNat
  | .setCursor col row => row.toNat * 2 ^ 8 + col.toNat
  | .setCgramAddr addr => addr.toNat
  | .clear => 0
  | .home => 0
  | .delay interval => interval.toNat

theorem areaOf_lt (i : Instr) : areaOf i < 2 ^ 28 := by
  cases i <;> simp only [areaOf] <;> omega

/-- R81: the word of a request is its opcode above its operand area. -/
theorem toNat_encodeWord (i : Instr) : (encodeWord i).toNat = opcodeOf i * 2 ^ 28 + areaOf i := by
  cases i with
  | init bw => exact toNat_zeros_append 0x1#4 27 (busWidthBit bw)
  | command b => exact toNat_zeros_append 0x2#4 20 b
  | writeChar c => exact toNat_zeros_append 0x3#4 20 c
  | print payload => exact toNat_zeros_append 0x4#4 12 (BitVec.ofNat 16 payload.length)
  | setEntryMode dir et => cases dir <;> cases et <;> rfl
  | setCursor col row =>
    have h := toNat_append_eq (0x6#4 ++ 0#12 ++ row) col
    rw [toNat_zeros_append] at h
    simp only [encodeWord, opcodeOf, areaOf]
    rw [h, BitVec.toNat_ofNat]
    omega
  | setCgramAddr addr => exact toNat_zeros_append 0x7#4 20 addr
  | clear => rfl
  | home => rfl
  | delay interval => exact toNat_append_eq 0xA#4 interval

/-- The table reads a well-formed request off its own opcode, area and payload. -/
theorem wordTable_of_wellFormed {i : Instr} (h : i.wellFormed = true) :
    wordTable (opcodeOf i) (areaOf i) (encodePayload i) = .ok i := by
  cases i with
  | init bw => cases bw <;> rfl
  | command b | writeChar b | setCgramAddr b => simp [wordTable, opcodeOf, areaOf, tableRow_of_lt b.isLt]
  | print payload =>
    have hlen : payload.length < 2 ^ 16 := Nat.lt_succ_of_le (of_decide_eq_true h)
    have harea : areaOf (.print payload) = payload.length := Nat.mod_eq_of_lt hlen
    rw [harea]
    simp [wordTable, opcodeOf, encodePayload, decodePrint_eq, tableRow_of_lt hlen]
  | setEntryMode dir et => cases dir <;> cases et <;> rfl
  | setCursor col row =>
    have := col.isLt
    have := row.isLt
    have hcol : areaOf (.setCursor col row) % 2 ^ 8 = col.toNat := by simp only [areaOf]; omega
    have hrow : areaOf (.setCursor col row) / 2 ^ 8 = row.toNat := by simp only [areaOf]; omega
    have harea : areaOf (.setCursor col row) < 2 ^ 16 := by simp only [areaOf]; omega
    rw [opcodeOf, wordTable, tableRow_of_lt harea, hcol, hrow, BitVec.ofNat_toNat, BitVec.ofNat_toNat]
    rfl
  | clear => rfl
  | home => rfl
  | delay interval => simp [wordTable, opcodeOf, areaOf]

/-- Settles O4: the encoder writes the opcode and the area that the table reads. -/
theorem decodeOfEncodeIsIdentity : Obligations.DecodeOfEncodeIsIdentity := fun i h =>
  (decode_eq_wordTable (toNat_encodeWord i) (areaOf_lt i) _).trans (wordTable_of_wellFormed h)

theorem of_tableRow_ok {area lo : Nat} {r : Except DecodeError Instr} {i : Instr} (h : tableRow area lo r = .ok i) :
    area < 2 ^ lo ∧ r = .ok i := by
  unfold tableRow at h
  split at h
  case isTrue hzero => exact ⟨(Nat.div_eq_zero_iff_lt (by positivity)).mp hzero, h⟩
  case isFalse => cases h

/-- A request that the table gives has the opcode and the area it was read from. -/
theorem parts_of_wordTable_ok {op area : Nat} (harea : area < 2 ^ 28) {payload : List Byte} {i : Instr}
    (h : wordTable op area payload = .ok i) : opcodeOf i = op ∧ areaOf i = area := by
  unfold wordTable at h
  split at h
  case h_10 =>
    cases h
    exact ⟨rfl, by simpa [areaOf] using harea⟩
  case h_11 => cases h
  case h_1 | h_5 =>
    obtain ⟨hlt, h⟩ := of_tableRow_ok h
    cases h
    interval_cases area <;> exact ⟨rfl, rfl⟩
  case h_4 =>
    obtain ⟨hlt, h⟩ := of_tableRow_ok h
    rw [decodePrint_eq] at h
    split at h
    case isTrue hlen =>
      cases h
      exact ⟨rfl, by rw [areaOf, List.length_take_of_le hlen, Nat.mod_eq_of_lt hlt]⟩
    case isFalse => cases h
  all_goals
    obtain ⟨hlt, h⟩ := of_tableRow_ok h
    cases h
    refine ⟨rfl, ?_⟩
    simp only [areaOf, BitVec.toNat_ofNat]
    omega

theorem print_of_wordTable_payloadIncomplete {op area : Nat} {payload : List Byte}
    (h : wordTable op area payload = .error .payloadIncomplete) : op = 0x4 ∧ area < 2 ^ 16 := by
  unfold wordTable tableRow at h
  split at h
  case h_4 =>
    split at h
    case isTrue hzero => exact ⟨rfl, (Nat.div_eq_zero_iff_lt (by decide)).mp hzero⟩
    case isFalse => cases h
  case h_10 | h_11 => cases h
  all_goals split at h <;> cases h

/-- R83: a decoded request encodes back into the word it came from. -/
theorem encodeWord_of_decode {r : Request} {i : Instr} (h : decode r = .ok i) : encodeWord i = r.word := by
  rw [decode_eq_wordTable_parts] at h
  obtain ⟨hop, harea⟩ := parts_of_wordTable_ok (Nat.mod_lt _ (by decide)) h
  rw [BitVec.toNat_eq, toNat_encodeWord, hop, harea, Nat.div_add_mod']

/-- R87: a PRINT word is decoded by the payload that travels with it. -/
theorem decode_printWord (len : BitVec 16) (payload : List Byte) :
    decode ⟨0x4#4 ++ 0#12 ++ len, payload⟩ = decodePrint len.toNat payload := by
  rw [decode_eq_wordTable (op := 0x4) (toNat_zeros_append 0x4#4 12 len) (by have := len.isLt; omega)]
  exact tableRow_of_lt len.isLt _

/-- R255: a word that lacks payload bytes is a PRINT's. -/
theorem word_of_decode_payloadIncomplete {r : Request} (h : decode r = .error .payloadIncomplete) :
    ∃ payload, r.word = encodeWord (.print payload) := by
  rw [decode_eq_wordTable_parts] at h
  obtain ⟨hop, harea⟩ := print_of_wordTable_payloadIncomplete h
  refine ⟨List.replicate (r.word.toNat % 2 ^ 28) 0#8, ?_⟩
  rw [BitVec.toNat_eq, toNat_encodeWord, opcodeOf, areaOf, List.length_replicate, Nat.mod_eq_of_lt harea, ← hop,
    Nat.div_add_mod']

end Sys2Proof
end

section
/-! What an idle engine does with the oldest offer (R80, R121, R242, R244, R255), by what the decoder says of it. -/

namespace Sys2Proof.Machine

/-! ### The opcode table -/

theorem encodesToItsRow : ∀ i : Instr, Laws.EncodesToItsRow.Statement i
  | .init bw => Laws.EncodesToItsRow.init bw
  | .command b => Laws.EncodesToItsRow.command b
  | .writeChar c => Laws.EncodesToItsRow.writeChar c
  | .print payload => Laws.EncodesToItsRow.print payload
  | .setEntryMode dir et => Laws.EncodesToItsRow.setEntryMode dir et
  | .setCursor col row => Laws.EncodesToItsRow.setCursor col row
  | .setCgramAddr addr => Laws.EncodesToItsRow.setCgramAddr addr
  | .clear => Laws.EncodesToItsRow.clear
  | .home => Laws.EncodesToItsRow.home
  | .delay interval => Laws.EncodesToItsRow.delay interval

theorem row_mem_opcodeRows (i : Instr) : Laws.EncodesToItsRow.row i ∈ opcodeRows := by
  cases i <;> simp [Laws.EncodesToItsRow.row, opcodeRows]

theorem inOpcodeTable_encodeWord (i : Instr) : inOpcodeTable (encodeWord i) = true :=
  List.any_eq_true.mpr ⟨_, row_mem_opcodeRows i, beq_iff_eq.mpr (encodesToItsRow i).1⟩

/-- R83, R94: a word of no row is Illegal, whatever its payload. -/
theorem decode_of_not_inOpcodeTable {r : Request} (h : inOpcodeTable r.word = false) :
    decode r = .error .reservedOpcode ∨ decode r = .error .reservedBits := by
  match hdecode : decode r with
  | .error .reservedOpcode => exact .inl rfl
  | .error .reservedBits => exact .inr rfl
  | .ok i => simp [← encodeWord_of_decode hdecode, inOpcodeTable_encodeWord] at h
  | .error .payloadIncomplete =>
    obtain ⟨payload, hword⟩ := word_of_decode_payloadIncomplete hdecode
    simp [hword, inOpcodeTable_encodeWord] at h

/-! ### The step that takes an offer -/

section Offer

variable {s : State} {r : Request} {rest : List Request}

theorem step_of_offer (hidle : s.busy = false) (hlow : s.resetNow = false) (hoffers : s.offers = r :: rest) :
    step s = acceptRequest r rest s.resetSampled := by
  rw [step_of_idle hlow hidle, idleStep, State.resetSampled_offers, hoffers]

theorem acceptRequest_ok {i : Instr} (h : decode r = .ok i) : acceptRequest r rest s = exec i (s.latch r rest) := by
  rw [acceptRequest, h]

theorem acceptRequest_illegal (h : decode r = .error .reservedOpcode ∨ decode r = .error .reservedBits) :
    acceptRequest r rest s = .next ((s.latch r rest).raise .illegalRequest) := by
  obtain h | h := h <;> rw [acceptRequest, h]

theorem acceptRequest_payloadIncomplete (h : decode r = .error .payloadIncomplete) :
    acceptRequest r rest s = .fault .payloadIncomplete := by
  rw [acceptRequest, h]

end Offer

/-- Settles O5: the rows are the table's, the word comes back from its opcode and area, and an Illegal offer raises. -/
theorem decoderFollowsTheWordTable : Obligations.DecoderFollowsTheWordTable := by
  refine ⟨fun w payload op area hw harea => ?_, fun _ _ => encodeWord_of_decode, ?_⟩
  · rw [decode_eq_wordTable hw harea payload]
    refine ⟨?_, ?_, ?_, ?_, ?_, ?_, ?_, ?_, ?_, ?_, ?_, fun h => wordTable_reservedOpcode h area payload⟩
    case refine_4 =>
      rintro rfl hzero rfl
      exact (if_pos hzero).trans (by simp [decodePrint_eq])
    case refine_5 =>
      rintro rfl hset
      exact if_neg hset
    all_goals rintro rfl; simp [wordTable, tableRow]
  · intro s r rest hidle hlow hoffers hillegal
    exact ⟨_, (step_of_offer hidle hlow hoffers).trans (acceptRequest_illegal hillegal), rfl, rfl⟩

/-- Settles O6: the decoder of a PRINT word compares the payload's length with `LEN`. -/
theorem printTakesExactlyItsLenBytes : Obligations.PrintTakesExactlyItsLenBytes := by
  intro len payload
  have hdecode := (decode_printWord len payload).trans (decodePrint_eq len.toNat payload)
  refine ⟨fun hlen => hdecode.trans (if_pos hlen), fun hshort s rest hidle hlow hoffers => ?_⟩
  rw [step_of_offer hidle hlow hoffers]
  exact acceptRequest_payloadIncomplete (hdecode.trans (if_neg (Nat.not_le.mpr hshort)))

/-- Settles O9: the word is Illegal, and a request error changes nothing but the response. -/
theorem illegalWordsAreAnsweredIllegalRequest : Obligations.IllegalWordsAreAnsweredIllegalRequest := by
  intro s r rest hidle hlow hoffers hword
  rw [step_of_offer hidle hlow hoffers, acceptRequest_illegal (decode_of_not_inOpcodeTable hword),
    State.raise_eq_answeredError rfl]
  rfl

/-- Settles O8: the step accepts the offer, and `latch` is the state it runs in. -/
theorem stepRunsTheAcceptedRequest : Obligations.StepRunsTheAcceptedRequest := fun _ _ _ _ hidle hlow hoffers hdecode =>
  (step_of_offer hidle hlow hoffers).trans (acceptRequest_ok hdecode)

/-! ### What an idle step leaves -/

@[simp] theorem acceptAction_offers (i : Instr) (s : State) : (acceptAction i s).offers = s.offers := by
  cases i <;> rfl
@[simp] theorem acceptAction_responses (i : Instr) (s : State) : (acceptAction i s).responses = s.responses := by
  cases i <;> rfl

/-- R240, R241: a request error answers neither OK nor a hardware error. -/
theorem Cause.code_of_isRequestError {c : Cause} (h : c.isRequestError = true) :
    c.code ≠ .ok ∧ c.code ≠ .gpioError ∧ c.code ≠ .timerError := by
  cases c <;> simp_all [Cause.isRequestError, Cause.code]

/-- Settles O38: an idle engine waits, refuses the offer with a request error, or accepts it. -/
theorem idleStepTakesAtMostOneOffer : Obligations.IdleStepTakesAtMostOneOffer := by
  intro s t hidle hlow hstep
  cases stepEffect_of_step hstep with
  | reset hreset => simp [hlow] at hreset
  | answered _ _ _ hbusy => simp [hidle] at hbusy
  | completed _ hbusy => simp [hidle] at hbusy
  | waited _ _ hoffers => exact .inl ⟨hoffers, rfl⟩
  | refused r rest c _ _ hoffers hcause =>
    have herror := endsInError_raise (s.resetSampled.latch r rest) c
    exact .inr ⟨r, rest, hoffers, rfl, rfl, .inr ⟨rfl, rfl, herror.responses, Cause.life_of_isRequestError hcause _,
      Cause.code_of_isRequestError hcause⟩⟩
  | accepted r rest i _ _ hoffers =>
    exact .inr ⟨r, rest, hoffers, by simp, by simp, .inl (by simp)⟩

end Sys2Proof.Machine
end

section
/-! The sequencer's single steps (R117..R121): a pin write answered err, a wait with either answer, completion, and that
a step is refused only where a port is silent or a payload is missing (R255, R264). -/

namespace Sys2Proof.Machine

/-! ### One micro-op -/

theorem resetSampled_timerAnswered (s : State) : s.resetSampled.timerAnswered = s.timerAnswered.resetSampled := by
  cases h : s.timerScript <;> simp [State.timerAnswered, State.resetSampled, h]

/-- R121: a busy engine runs the micro-op at `SEQ_PC`. -/
theorem step_of_microOp {s : State} {op : MicroOp} (hbusy : s.busy = true) (hlow : s.resetNow = false)
    (hop : s.seq[s.seqPc]? = some op) : step s = runMicroOp op s.resetSampled := by
  have hop' : s.resetSampled.seq[s.resetSampled.seqPc]? = some op := hop
  rw [step_of_busy hlow hbusy, busyStep, hop']

theorem runPin_err {s : State} {e : PinErr} (p : Line) (v : Level) (tag : Tag) (herr : s.pinAnswer = some (.err e)) :
    runPin p v tag s = .next (afterPinErr s p v tag e) := by
  simp [runPin, herr, afterPinErr]

theorem runWait_ok {s : State} (d : Nat) (tag : Tag) (hok : s.timerAnswer = some .ok) :
    runWait d tag s = .next (afterWaitOk s d) := by
  simp [runWait, hok, afterWaitOk]

theorem runWait_err {s : State} (d : Nat) (tag : Tag) (herr : s.timerAnswer = some .err) :
    runWait d tag s = .next (afterWaitErr s d tag) := by
  simp [runWait, herr, afterWaitErr]

/-- R117, R246: the state after a pin write that answered `err(e)`, field by field. -/
theorem afterPinErr_eq (s : State) (p : Line) (v : Level) (tag : Tag) (e : PinErr) :
    afterPinErr s p v tag e =
      { s.pinAnswered with
        trace := s.trace ++ [.pinEv p v (.err e)]
        pinLvl := s.pinLvl.set p .x
        hazard := (s.unitStart tag).hazard
        sync := (s.unitCut tag).sync
        seq := []
        seqPc := 0
        life := .failed
        code := .gpioError
        errPin := some p
        errInfo := some e
        busy := false
        responses := s.responses ++
          [{ code := .gpioError, life := .failed, busy := false, errPin := some p, errInfo := some e }] } := by
  cases h : s.pinScript <;> cases tag <;>
    simp [afterPinErr, State.pinAnswered, State.unitStart, State.unitCut, Tag.unit, State.emit, State.setPin,
      State.raise, State.respond, Cause.life, Cause.code, Cause.pin, Cause.info, h]

/-- R118, R294: the state after a wait that answered ok, field by field. -/
theorem afterWaitOk_eq (s : State) (d : Nat) :
    afterWaitOk s d =
      { s.timerAnswered with
        trace := s.trace ++ [.waitEv d .ok], settleDebt := s.settleDebt - d, seqPc := s.seqPc + 1 } := by
  simp [afterWaitOk, State.emit, State.credit, State.advance]

/-- R119, R246: the state after a wait that answered err, field by field. -/
theorem afterWaitErr_eq (s : State) (d : Nat) (tag : Tag) :
    afterWaitErr s d tag =
      { s.timerAnswered with
        trace := s.trace ++ [.waitEv d .err]
        sync := (s.unitCut tag).sync
        seq := []
        seqPc := 0
        life := .failed
        code := .timerError
        errPin := none
        errInfo := none
        busy := false
        responses := s.responses ++
          [{ code := .timerError, life := .failed, busy := false, errPin := none, errInfo := none }] } := by
  cases tag <;>
    simp [afterWaitErr, State.unitCut, Tag.unit, State.emit, State.raise, State.respond, Cause.life, Cause.code,
      Cause.pin, Cause.info]

/-- Settles O19: the scoreboard is read off for each place a micro-op can have in a unit. -/
theorem pinWriteAnsweredErr : Obligations.PinWriteAnsweredErr := by
  intro s p v tag e hbusy hlow hop herr
  have hsampled : s.resetSampled.pinAnswer = some (.err e) := herr
  rw [step_of_microOp hbusy hlow hop, runMicroOp, runPin_err p v tag hsampled, afterPinErr_eq,
    resetSampled_pinAnswered]
  cases tag with
  | outside | inside u | stop u => simp [State.resetSampled]
  | start u => cases u <;> simp [State.resetSampled, isByteUnit]

/-- Settles O20: a wait that answered ok lowers the debt, whatever its tag. -/
theorem waitAnsweredOk : Obligations.WaitAnsweredOk := by
  intro s d tag hbusy hlow hop hok
  have hsampled : s.resetSampled.timerAnswer = some .ok := hok
  rw [step_of_microOp hbusy hlow hop, runMicroOp, runWait_ok d tag hsampled, afterWaitOk_eq,
    resetSampled_timerAnswered]
  simp [State.resetSampled]

/-- Settles O21: a wait that answered err touches of the scoreboard `SYNC` only, and inside a unit. -/
theorem waitAnsweredErr : Obligations.WaitAnsweredErr := by
  intro s d tag hbusy hlow hop herr
  have hsampled : s.resetSampled.timerAnswer = some .err := herr
  rw [step_of_microOp hbusy hlow hop, runMicroOp, runWait_err d tag hsampled, afterWaitErr_eq,
    resetSampled_timerAnswered, State.unitCut_sync]
  simp [State.resetSampled]

/-! ### Completion -/

/-- R120, R147: a completed request has answered OK, and an INIT has made `LIFE` Ready. -/
theorem State.complete_eq_answeredOk (s : State) :
    s.complete = { s with life := if servesInit s.cur = true then .ready else s.life }.answeredOk := by
  rw [State.complete, State.completionAction_eq]
  split <;> rfl

/-- Settles O22: past its last micro-op a busy engine completes. -/
theorem completionAnswersOk : Obligations.CompletionAnswersOk := by
  intro s hbusy hlow hend
  have hnone : s.resetSampled.seq[s.resetSampled.seqPc]? = none := List.getElem?_eq_none hend.ge
  rw [step_of_busy hlow hbusy, busyStep, hnone]
  exact (if_pos hend).trans (congrArg _ s.resetSampled.complete_eq_answeredOk)

/-! ### A next state -/

/-- R264: a port with no silent entry in its script answers. -/
theorem State.pinAnswer_ne_none {s : State} (h : none ∉ s.pinScript) : s.pinAnswer ≠ none := by
  unfold State.pinAnswer
  split
  case h_1 a rest hscript => exact fun hsilent => h (by simp [hscript, hsilent])
  case h_2 => simp

theorem State.timerAnswer_ne_none {s : State} (h : none ∉ s.timerScript) : s.timerAnswer ≠ none := by
  unfold State.timerAnswer
  split
  case h_1 a rest hscript => exact fun hsilent => h (by simp [hscript, hsilent])
  case h_2 => simp

theorem exists_next_runMicroOp {s : State} (hpins : s.pinAnswer ≠ none) (htimer : s.timerAnswer ≠ none)
    (op : MicroOp) : ∃ t, runMicroOp op s = .next t := by
  cases op with
  | pin p v tag =>
    simp only [runMicroOp, runPin]
    split
    case h_1 hsilent => exact absurd hsilent hpins
    case h_2 | h_3 => exact ⟨_, rfl⟩
  | wait d tag =>
    simp only [runMicroOp, runWait]
    split
    case h_1 hsilent => exact absurd hsilent htimer
    case h_2 | h_3 => exact ⟨_, rfl⟩

theorem exists_next_exec (i : Instr) (s : State) : ∃ t, exec i s = .next t := by
  obtain ⟨c, -, hraise⟩ | ⟨-, -, hload⟩ := exec_cases i s
  · exact ⟨_, hraise⟩
  · exact ⟨_, hload⟩

theorem exists_next_acceptRequest {r : Request} (hcomplete : decode r ≠ .error .payloadIncomplete)
    (rest : List Request) (s : State) : ∃ t, acceptRequest r rest s = .next t := by
  match hdecode : decode r with
  | .ok i => exact acceptRequest_ok hdecode ▸ exists_next_exec i (s.latch r rest)
  | .error .payloadIncomplete => exact absurd hdecode hcomplete
  | .error .reservedOpcode => exact ⟨_, acceptRequest_illegal (.inl hdecode)⟩
  | .error .reservedBits => exact ⟨_, acceptRequest_illegal (.inr hdecode)⟩

/-- Settles O24: by what the step does, a reset, a micro-op, a completion, the taking of an offer, or waiting. -/
theorem engineIsNeverStuckByItsOwnRules : Obligations.EngineIsNeverStuckByItsOwnRules := by
  intro s hpins htimer hpc hoffers
  match hreset : s.resetNow, hbusy : s.busy with
  | true, _ => exact ⟨_, step_of_reset hreset⟩
  | false, true =>
    match hop : s.seq[s.seqPc]? with
    | some op =>
      rw [step_of_microOp hbusy hreset hop]
      exact exists_next_runMicroOp (s := s.resetSampled) (State.pinAnswer_ne_none hpins)
        (State.timerAnswer_ne_none htimer) op
    | none => exact ⟨_, completionAnswersOk s hbusy hreset (hpc.antisymm (List.getElem?_eq_none_iff.mp hop))⟩
  | false, false =>
    match htake : s.offers with
    | [] =>
      have hnothing : s.resetSampled.offers = [] := htake
      exact ⟨s.resetSampled, by rw [step_of_idle hreset hbusy, idleStep, hnothing]⟩
    | r :: rest =>
      rw [step_of_offer hbusy hreset htake]
      exact exists_next_acceptRequest (hoffers r (by simp [htake])) rest s.resetSampled

end Sys2Proof.Machine
end

section
/-! The transfer units (R112..R115): written out without a pulse wait, and counted with and without one. -/

namespace Sys2Proof.Machine

theorem pulseWait_eq_nil {P : Params} (h : P.tPulse = 0) (u : XferUnit) : pulseWait P u = [] := by
  simp [pulseWait, h]

theorem pulseWait_eq_wait {P : Params} (h : 0 < P.tPulse) (u : XferUnit) :
    pulseWait P u = [.wait P.tPulse (.inside u)] :=
  if_pos h

theorem xfer_eq_byteUnitOps {P : Params} (h : P.tPulse = 0) (rs : Level) (b : Byte) :
    xfer P rs b = byteUnitOps rs b := by
  simp [xfer, nib, pulseWait_eq_nil h, byteUnitOps, nibbleLevel, hiNibble, loNibble]

theorem xferNib_eq_resyncUnitOps {P : Params} (h : P.tPulse = 0) (n : Nibble) (last : Bool) :
    xferNib P n last = resyncUnitOps n last := by
  simp [xferNib, nib, pulseWait_eq_nil h, resyncUnitOps, nibbleLevel]

/-- Settles O51: without the pulse wait the units are the lists of R113 and R114. -/
theorem unitsAreTheirPinWrites : Obligations.UnitsAreTheirPinWrites := fun _ rs b n last h =>
  ⟨xfer_eq_byteUnitOps h rs b, xferNib_eq_resyncUnitOps h n last⟩

/-! ### Counts -/

theorem length_nib (P : Params) (n : Nibble) (u : XferUnit) (high low : Tag) :
    (nib P n u high low).length = 6 + (pulseWait P u).length := by
  simp only [nib, List.length_append, List.length_cons, List.length_nil]
  omega

theorem length_xferNib (P : Params) (n : Nibble) (last : Bool) :
    (xferNib P n last).length = 7 + (pulseWait P (.resync n last)).length := by
  simp only [xferNib, List.length_append, length_nib, List.length_singleton]
  omega

theorem length_xfer (P : Params) (rs : Level) (b : Byte) :
    (xfer P rs b).length = 13 + 2 * (pulseWait P (.byte rs b)).length := by
  simp only [xfer, List.length_append, length_nib, List.length_singleton]
  omega

/-- R54, R57: a nibble that is answered ok is latched once, with a pulse wait or without. -/
theorem latchedFrom_nib_append (P : Params) (n : Nibble) (u : XferUnit) (high low : Tag) (l : PinLevels)
    (enHigh : Bool) (rest : List MicroOp) :
    latchedFrom l enHigh (okEvents (nib P n u high low ++ rest)) =
      (l.withNibble n).latch :: latchedFrom (l.withNibble n) false (okEvents rest) := by
  unfold nib pulseWait
  split <;> rfl

theorem latchedFrom_xfer (P : Params) (rs : Level) (b : Byte) (l : PinLevels) :
    latchedFrom l false (okEvents (xfer P rs b)) =
      [ ((l.set .rs (.level rs)).withNibble (hiNibble b)).latch,
        (((l.set .rs (.level rs)).withNibble (hiNibble b)).withNibble (loNibble b)).latch ] := by
  have hunit : latchedFrom l false (okEvents (xfer P rs b)) =
      latchedFrom (l.set .rs (.level rs)) false (okEvents
        (nib P (hiNibble b) (.byte rs b) (.start (.byte rs b)) (.inside (.byte rs b)) ++
          (nib P (loNibble b) (.byte rs b) (.inside (.byte rs b)) (.stop (.byte rs b)) ++ []))) := by
    rw [xfer, List.append_assoc, List.append_nil]
    rfl
  rw [hunit, latchedFrom_nib_append, latchedFrom_nib_append]
  rfl

theorem latchedFrom_xferNib (P : Params) (n : Nibble) (last : Bool) (l : PinLevels) :
    latchedFrom l false (okEvents (xferNib P n last)) = [((l.set .rs (.level false)).withNibble n).latch] := by
  have hunit : latchedFrom l false (okEvents (xferNib P n last)) =
      latchedFrom (l.set .rs (.level false)) false (okEvents
        (nib P n (.resync n last) (.start (.resync n last)) (.stop (.resync n last)) ++ [])) := by
    rw [xferNib, List.append_nil]
    rfl
  rw [hunit, latchedFrom_nib_append]
  rfl

/-- Settles O52: each nibble has six pin writes, its pulse wait if any, and one latch. -/
theorem unitCounts : Obligations.UnitCounts := by
  intro P rs b n last u high low
  refine ⟨fun hnone => ?_, fun hpulse => ?_, fun l => ?_⟩
  · simp [length_nib, pulseWait_eq_nil hnone, xfer_eq_byteUnitOps hnone, xferNib_eq_resyncUnitOps hnone, byteUnitOps,
      resyncUnitOps, pinCount]
  · simp [length_nib, length_xferNib, length_xfer, pulseWait_eq_wait hpulse]
  · simp [latchedFrom_xfer, latchedFrom_xferNib]

end Sys2Proof.Machine
end

section
/-! Runs of micro-ops that are all answered ok (R116, R118, R121): what they write of the lines and the scoreboard, the
state they leave, and with it the run of a whole accepted request. -/

namespace Sys2Proof.Machine

/-! ### The lines and the scoreboard -/

/-- What a micro-op that is answered ok writes, beside the trace and `SEQ_PC` (R30, R34, R35, R36). -/
structure Board where
  pinLvl : PinLevels
  settleDebt : Nat
  hazard : Bool
  sync : Bool

def State.board (s : State) : Board :=
  { pinLvl := s.pinLvl, settleDebt := s.settleDebt, hazard := s.hazard, sync := s.sync }

def State.withBoard (s : State) (b : Board) : State :=
  { s with pinLvl := b.pinLvl, settleDebt := b.settleDebt, hazard := b.hazard, sync := b.sync }

/-- A micro-op answered ok, on the lines and the scoreboard (R116, R118). -/
def Board.afterOk (b : Board) : MicroOp → Board
  | .pin p v .outside => { b with pinLvl := b.pinLvl.set p (.level v) }
  | .pin p v (.inside _) => { b with pinLvl := b.pinLvl.set p (.level v) }
  | .pin p v (.start u) =>
    { b with
      pinLvl := b.pinLvl.set p (.level v)
      hazard := b.hazard || owes b.settleDebt || (isByteUnit u && !b.sync) }
  | .pin p v (.stop u) =>
    { b with pinLvl := b.pinLvl.set p (.level v), settleDebt := settle u, sync := syncAfter u b.sync }
  | .wait d _ => { b with settleDebt := b.settleDebt - d }

/-- Micro-ops answered ok, in order. -/
def Board.afterOks (b : Board) (ops : List MicroOp) : Board := ops.foldl Board.afterOk b

@[simp] theorem Board.afterOks_nil (b : Board) : b.afterOks [] = b := rfl

@[simp] theorem Board.afterOks_cons (b : Board) (op : MicroOp) (ops : List MicroOp) :
    b.afterOks (op :: ops) = (b.afterOk op).afterOks ops := rfl

theorem Board.afterOks_append (b : Board) (ops rest : List MicroOp) :
    b.afterOks (ops ++ rest) = (b.afterOks ops).afterOks rest :=
  List.foldl_append

/-! ### Steps -/

theorem steps_succ {s t : State} (h : step s = .next t) (n : Nat) : steps (n + 1) s = steps n t := by
  simp [steps, h]

theorem steps_add {m : Nat} {s t : State} (h : steps m s = .next t) (n : Nat) : steps (m + n) s = steps n t := by
  induction m generalizing s with
  | zero =>
    cases h
    rw [Nat.zero_add]
  | succ m ih =>
    rw [Nat.succ_add]
    match hstep : step s with
    | .next u =>
      rw [steps_succ hstep] at h ⊢
      exact ih h
    | .fault r | .refused r => simp [steps, hstep] at h

theorem steps_one (s : State) : steps 1 s = step s := by
  match hstep : step s with
  | .next t => exact steps_succ hstep 0
  | .fault r | .refused r => simp [steps, hstep]

/-! ### The reset input -/

/-- The reset input is low at each of the next `n` steps. -/
def LowFor (n : Nat) (line : List Bool) : Prop := ∀ level ∈ line.take n, level = false

theorem LowFor.of_add {m n : Nat} {line : List Bool} (h : LowFor (m + n) line) : LowFor m line := fun level hmem =>
  h level ((List.take_prefix_take_left (Nat.le_add_right m n)).subset hmem)

theorem LowFor.drop {m n : Nat} {line : List Bool} (h : LowFor (m + n) line) : LowFor n (line.drop m) := by
  intro level hmem
  rw [List.take_drop] at hmem
  exact h level (List.mem_of_mem_drop hmem)

theorem LowFor.resetNow {s : State} {n : Nat} (h : LowFor (n + 1) s.resetLine) : s.resetNow = false :=
  State.resetNow_of_low h

/-! ### Micro-ops answered ok -/

/-- The waits in a list of micro-ops. -/
def waitCount (ops : List MicroOp) : Nat :=
  ops.countP fun op => match op with | .pin _ _ _ => false | .wait _ _ => true

theorem pinCount_add_waitCount (ops : List MicroOp) : pinCount ops + waitCount ops = ops.length := by
  induction ops with
  | nil => rfl
  | cons op ops ih =>
    rw [List.length_cons, ← ih]
    cases op with
    | pin p v tag => simp [pinCount, waitCount, Nat.add_right_comm]
    | wait d tag => simp [pinCount, waitCount, Nat.add_assoc]

/-- A busy engine has the micro-ops `ops` before it, its ports answer ok to each of them, with the answers `ps` and `ts`
left over, and its reset input is low for them. -/
structure State.AnswersOk (s : State) (ops : List MicroOp) (ps : List (Option PinAnswer))
    (ts : List (Option TimerAnswer)) : Prop where
  busy : s.busy = true
  coming : ops <+: s.seq.drop s.seqPc
  low : LowFor ops.length s.resetLine
  pinsOk : s.pinScript = List.replicate (pinCount ops) (some .ok) ++ ps
  waitsOk : s.timerScript = List.replicate (waitCount ops) (some .ok) ++ ts

/-- The state after the micro-ops `ops` were answered ok, the answers `ps` and `ts` being left over. -/
def State.ranOps (s : State) (ops : List MicroOp) (ps : List (Option PinAnswer)) (ts : List (Option TimerAnswer)) :
    State :=
  { s.withBoard (s.board.afterOks ops) with
    seqPc := s.seqPc + ops.length
    trace := s.trace ++ okEvents ops
    resetLine := s.resetLine.drop ops.length
    pinScript := ps
    timerScript := ts }

theorem State.ranOps_ranOps (s : State) (ops rest : List MicroOp) (ps ps' : List (Option PinAnswer))
    (ts ts' : List (Option TimerAnswer)) :
    (s.ranOps ops ps ts).ranOps rest ps' ts' = s.ranOps (ops ++ rest) ps' ts' := by
  simp [State.ranOps, State.withBoard, State.board, Board.afterOks_append, okEvents, Nat.add_assoc]

section AnswersOk

variable {s : State} {op : MicroOp} {ops : List MicroOp} {ps : List (Option PinAnswer)}
  {ts : List (Option TimerAnswer)}

theorem State.AnswersOk.ranOps_nil (h : s.AnswersOk [] ps ts) : s.ranOps [] ps ts = s := by
  obtain ⟨-, -, -, hpins, hwaits⟩ := h
  simp only [pinCount, waitCount, List.countP_nil, List.replicate_zero, List.nil_append] at hpins hwaits
  simp [State.ranOps, State.withBoard, State.board, okEvents, ← hpins, ← hwaits]

theorem State.AnswersOk.getElem?_seq (h : s.AnswersOk (op :: ops) ps ts) : s.seq[s.seqPc]? = some op := by
  obtain ⟨later, hlater⟩ := h.coming
  simpa [← hlater] using (List.getElem?_drop (xs := s.seq) (i := s.seqPc) (j := 0)).symm

/-- R116, R118: the first of the micro-ops is run. -/
theorem State.AnswersOk.step (h : s.AnswersOk (op :: ops) ps ts) :
    step s = .next (s.ranOps [op] (List.replicate (pinCount ops) (some .ok) ++ ps)
      (List.replicate (waitCount ops) (some .ok) ++ ts)) := by
  have hlow : s.resetNow = false := h.low.resetNow
  cases op with
  | pin p v tag =>
    have hscript : s.pinScript = some .ok :: (List.replicate (pinCount ops) (some .ok) ++ ps) := by
      simpa [pinCount, List.replicate_succ] using h.pinsOk
    have hwaits : s.timerScript = List.replicate (waitCount ops) (some .ok) ++ ts := by
      simpa [waitCount] using h.waitsOk
    rw [step_of_pin_ok h.busy hlow h.getElem?_seq (s.pinAnswer_cons _ _ hscript), afterPinOk_eq,
      resetSampled_pinAnswered, s.pinAnswered_cons _ _ hscript]
    cases tag <;>
      simp [State.ranOps, State.withBoard, State.board, Board.afterOk, State.resetSampled, okEvents, MicroOp.okEvent,
        ← hwaits]
  | wait d tag =>
    have hscript : s.timerScript = some .ok :: (List.replicate (waitCount ops) (some .ok) ++ ts) := by
      simpa [waitCount, List.replicate_succ] using h.waitsOk
    have hpins : s.pinScript = List.replicate (pinCount ops) (some .ok) ++ ps := by
      simpa [pinCount] using h.pinsOk
    rw [waitAnsweredOk s d tag h.busy hlow h.getElem?_seq (s.timerAnswer_cons _ _ hscript),
      s.timerAnswered_cons _ _ hscript]
    simp [State.ranOps, State.withBoard, State.board, Board.afterOk, okEvents, MicroOp.okEvent, ← hpins]

/-- After the first micro-op the ports still answer ok to the others. -/
theorem State.AnswersOk.tail (h : s.AnswersOk (op :: ops) ps ts) :
    (s.ranOps [op] (List.replicate (pinCount ops) (some .ok) ++ ps)
      (List.replicate (waitCount ops) (some .ok) ++ ts)).AnswersOk ops ps ts where
  busy := h.busy
  coming := by
    obtain ⟨later, hlater⟩ := h.coming
    have hrest : ops ++ later = s.seq.drop (s.seqPc + 1) := by simpa using congrArg List.tail hlater
    exact ⟨later, hrest⟩
  low := LowFor.drop (m := 1) (by simpa [Nat.add_comm] using h.low)
  pinsOk := rfl
  waitsOk := rfl

/-- The micro-ops are run in order, one a step. -/
theorem State.AnswersOk.steps (h : s.AnswersOk ops ps ts) : steps ops.length s = .next (s.ranOps ops ps ts) := by
  induction ops generalizing s with
  | nil => exact congrArg _ h.ranOps_nil.symm
  | cons op ops ih =>
    have hfirst := (steps_one s).trans h.step
    rw [List.length_cons, Nat.add_comm, steps_add hfirst, ih h.tail, State.ranOps_ranOps]
    rfl

end AnswersOk

/-! ### An accepted request -/

/-- The operands that an accepted request may have (R144, R210, R215). -/
def operandsInRange : Instr → Bool
  | .init bw => bw == .fourBit
  | .setCursor col row => cursorValid Config.engine col row
  | .setCgramAddr addr => cgramValid Config.engine addr
  | _ => true

/-- R242: a request that LIFE accepts, with its operands in range, loads its expansion. -/
theorem exec_of_accepts {i : Instr} {s : State} (haccepts : accepts s.life i = true)
    (hrange : operandsInRange i = true) :
    exec i s = .next ((acceptAction i s).load (expansion Config.engine s.entryMode i)) := by
  cases i with
  | init bw =>
    obtain rfl : bw = .fourBit := beq_iff_eq.mp hrange
    exact congrArg _ (if_pos (beq_iff_eq.mp haccepts))
  | setCursor | setCgramAddr =>
    exact congrArg _ ((if_pos (beq_iff_eq.mp haccepts)).trans (if_pos hrange))
  | _ => exact congrArg _ (if_pos (beq_iff_eq.mp haccepts))

@[simp] theorem acceptAction_pinScript (i : Instr) (s : State) : (acceptAction i s).pinScript = s.pinScript := by
  cases i <;> rfl
@[simp] theorem acceptAction_timerScript (i : Instr) (s : State) : (acceptAction i s).timerScript = s.timerScript := by
  cases i <;> rfl
@[simp] theorem acceptAction_resetLine (i : Instr) (s : State) : (acceptAction i s).resetLine = s.resetLine := by
  cases i <;> rfl

/-- The state in which an accepted request's micro-ops `ops` start: the reset input sampled, the offer `r` latched. -/
def State.loaded (s : State) (r : Request) (rest : List Request) (ops : List MicroOp) : State :=
  (s.resetSampled.latch r rest).load ops

/-- The acceptance actions touch nothing that taking the offer touches. -/
theorem acceptAction_load (i : Instr) (s : State) (r : Request) (rest : List Request) (ops : List MicroOp) :
    (acceptAction i (s.resetSampled.latch r rest)).load ops = (acceptAction i s).loaded r rest ops := by
  cases i <;> rfl

section WholeRequest

variable {s : State} {i : Instr} {r : Request} {rest : List Request} {ops : List MicroOp}
  {ps : List (Option PinAnswer)} {ts : List (Option TimerAnswer)}

/-- R80, R242: an idle engine accepts the oldest offer: the acceptance action, and its expansion loaded. -/
theorem step_of_accepts (hidle : s.busy = false) (hlow : s.resetNow = false) (hoffers : s.offers = r :: rest)
    (hdecode : decode r = .ok i) (haccepts : accepts s.life i = true) (hrange : operandsInRange i = true) :
    step s = .next ((acceptAction i s).loaded r rest (expansion Config.engine s.entryMode i)) := by
  rw [step_of_offer hidle hlow hoffers, acceptRequest_ok hdecode, ← acceptAction_load]
  exact exec_of_accepts haccepts hrange

theorem State.Offers.lowFor (h : s.Offers r rest (pinCount ops) (waitCount ops) ps ts) :
    LowFor (1 + (ops.length + 1)) s.resetLine := by
  have hlow : LowFor (pinCount ops + waitCount ops + 2) s.resetLine := h.noReset
  rwa [pinCount_add_waitCount, show ops.length + 2 = 1 + (ops.length + 1) by omega] at hlow

/-- The ports answer ok to an accepted request's micro-ops. -/
theorem State.Offers.answersOk (h : s.Offers r rest (pinCount ops) (waitCount ops) ps ts) (i : Instr) :
    ((acceptAction i s).loaded r rest ops).AnswersOk ops ps ts where
  busy := rfl
  coming := List.prefix_rfl
  low := by simpa [State.loaded] using h.lowFor.drop.of_add
  pinsOk := by simpa [State.loaded] using h.pinsOk
  waitsOk := by simpa [State.loaded] using h.waitsOk

/-- R120: a request whose micro-ops have all been answered ok completes. -/
theorem step_of_ranOps (hlow : LowFor 1 (s.resetLine.drop (ops.length + 1))) :
    step ((s.loaded r rest ops).ranOps ops ps ts) = .next (({ s.ranOk r rest ops (okEvents ops) ps ts with
      life := if servesInit (some r) = true then .ready else s.life }.withBoard
        (s.board.afterOks ops)).answeredOk) := by
  have hreset : ((s.loaded r rest ops).ranOps ops ps ts).resetNow = false :=
    LowFor.resetNow (n := 0) (by simpa [State.ranOps, State.loaded] using hlow)
  rw [completionAnswersOk _ rfl hreset (Nat.zero_add _)]
  simp [State.answeredOk, State.ranOps, State.ranOk, State.withBoard, State.loaded, State.board, State.load,
    State.latch, State.resetSampled]

/-- R80, R120, R121: a whole request that is accepted and whose micro-ops are all answered ok: the acceptance, the
micro-ops of its expansion and the completion. -/
theorem State.Offers.steps_of_accepts (h : s.Offers (encode i) rest (pinCount ops) (waitCount ops) ps ts)
    (hwell : i.wellFormed = true) (haccepts : accepts s.life i = true) (hrange : operandsInRange i = true)
    (hops : expansion Config.engine s.entryMode i = ops) :
    steps (ops.length + 2) s = .next (({ (acceptAction i s).ranOk (encode i) rest ops (okEvents ops) ps ts with
      life := if accepts .uninitialized i = true then .ready else s.life }.withBoard
        ((acceptAction i s).board.afterOks ops)).answeredOk) := by
  have hdecode := decodeOfEncodeIsIdentity i hwell
  have hlast : LowFor 1 ((acceptAction i s).resetLine.drop (ops.length + 1)) := by
    simpa using h.lowFor.drop.drop
  rw [steps_succ (hops ▸ step_of_accepts h.idle h.resetNow h.offered hdecode haccepts hrange),
    steps_add (h.answersOk i).steps, steps_one, step_of_ranOps hlast, servesInit_of_decode hdecode, acceptAction_life]

end WholeRequest

end Sys2Proof.Machine
end

section
/-! The whole requests with every answer ok (R120, R141..R230, R296): what each expansion of the engine writes of the
lines and the scoreboard, and the events it leaves. INIT failing on its seventh micro-op is V-S8 (R150). -/

namespace Sys2Proof.Machine

/-! ### Units and waits -/

@[simp] theorem okEvents_append (ops rest : List MicroOp) : okEvents (ops ++ rest) = okEvents ops ++ okEvents rest :=
  List.map_append

@[simp] theorem okEvents_byteUnitOps (rs : Level) (b : Byte) : okEvents (byteUnitOps rs b) = byteEvents rs b := by
  simp [okEvents, byteUnitOps, MicroOp.okEvent, byteEvents, nibbleEvents]

@[simp] theorem okEvents_resyncUnitOps (n : Nibble) (last : Bool) :
    okEvents (resyncUnitOps n last) = resyncEvents n := rfl

@[simp] theorem okEvents_waitOps (d : Nat) : okEvents (waitOps d) = waitEvents d := rfl

/-- R113, R292, R293, R295 (b): a byte unit sets every line, starts with the hazard check and leaves its settle time as
the debt. -/
theorem Board.afterOks_byteUnitOps (b : Board) (rs : Level) (x : Byte) :
    b.afterOks (byteUnitOps rs x) =
      { pinLvl := busLevels rs x
        settleDebt := settle (.byte rs x)
        hazard := b.hazard || owes b.settleDebt || !b.sync
        sync := syncAfter (.byte rs x) b.sync } := rfl

/-- R114, R146, R292, R293: a re-sync unit starts with the hazard check, asks for no sync, and the last sets it. -/
theorem Board.afterOks_resyncUnitOps (b : Board) (n : Nibble) (last : Bool) :
    b.afterOks (resyncUnitOps n last) =
      { pinLvl := (b.pinLvl.set .rs (.level false)).withNibble n
        settleDebt := Config.sResync
        hazard := b.hazard || owes b.settleDebt || false
        sync := last || b.sync } := rfl

theorem Board.afterOks_waitOps (b : Board) (d : Nat) :
    b.afterOks (waitOps d) = { b with settleDebt := b.settleDebt - d } := rfl

/-! ### A byte, alone or with its wait -/

theorem expandCommand_engine (b : Byte) : expandCommand Config.engine b = byteUnitOps false b := xfer_engine false b

theorem expandWriteChar_engine (c : Byte) : expandWriteChar Config.engine c = byteUnitOps true c := xfer_engine true c

/-- Settles O26: the byte unit with RS 0. -/
theorem commandRunsToOk : Obligations.CommandRunsToOk := by
  intro s b rest ps ts hready h
  have hrun := h.steps_of_accepts (ops := byteUnitOps false b) rfl (by rw [hready]; rfl) rfl (expandCommand_engine b)
  rw [Board.afterOks_byteUnitOps, okEvents_byteUnitOps, settle_byte_command, syncAfter_byte_command] at hrun
  exact hrun

/-- Settles O27: the byte unit with RS 1. -/
theorem writeCharRunsToOk : Obligations.WriteCharRunsToOk := by
  intro s c rest ps ts hready h
  have hrun := h.steps_of_accepts (ops := byteUnitOps true c) rfl (by rw [hready]; rfl) rfl (expandWriteChar_engine c)
  rw [Board.afterOks_byteUnitOps, okEvents_byteUnitOps] at hrun
  exact hrun

/-- Settles O32: the one wait. -/
theorem delayRunsToOk : Obligations.DelayRunsToOk := by
  intro s interval rest ps ts hready h
  have hrun := h.steps_of_accepts (ops := waitOps interval.toNat) rfl (by rw [hready]; rfl) rfl rfl
  rw [Board.afterOks_waitOps, okEvents_waitOps] at hrun
  exact hrun

theorem syncAfter_of_fourBit {x : Byte} (h : leavesFourBit x = false) (sync : Bool) :
    syncAfter (.byte false x) sync = sync := by
  simp [syncAfter, h]

/-- A byte whose settle time its wait covers leaves no debt (R291, R292, R294). -/
theorem Board.afterOks_byte_wait (b : Board) {rs : Level} {x : Byte} {d : Nat} (hsettle : settle (.byte rs x) ≤ d)
    (hsync : syncAfter (.byte rs x) b.sync = b.sync) :
    b.afterOks (byteUnitOps rs x ++ waitOps d) =
      { b with
        pinLvl := busLevels rs x, settleDebt := 0, hazard := b.hazard || owes b.settleDebt || !b.sync } := by
  rw [Board.afterOks_append, Board.afterOks_byteUnitOps, Board.afterOks_waitOps, Nat.sub_eq_zero_of_le hsettle, hsync]

/-- R296: a request of a Ready engine that sends one such command byte and its wait. -/
theorem State.Offers.steps_of_byte_wait {s : State} {i : Instr} {rest : List Request} {ps : List (Option PinAnswer)}
    {ts : List (Option TimerAnswer)} (h : s.Offers (encode i) rest 13 1 ps ts) (hready : s.life = .ready)
    (hwell : i.wellFormed = true) (haccepts : accepts .ready i = true) (hrange : operandsInRange i = true) {x : Byte}
    {d : Nat} (hops : expansion Config.engine s.entryMode i = byteUnitOps false x ++ waitOps d)
    (hsettle : settle (.byte false x) ≤ d) (hmode : leavesFourBit x = false) :
    steps 16 s = .next (({ (acceptAction i s).ranOk (encode i) rest (byteUnitOps false x ++ waitOps d)
        (byteEvents false x ++ waitEvents d) ps ts with
      life := if accepts .uninitialized i = true then .ready else s.life }.withBoard
        { (acceptAction i s).board with
          pinLvl := busLevels false x
          settleDebt := 0
          hazard := (acceptAction i s).hazardAtByte }).answeredOk) := by
  have hrun := State.Offers.steps_of_accepts (ops := byteUnitOps false x ++ waitOps d) h hwell (hready ▸ haccepts)
    hrange hops
  rw [Board.afterOks_byte_wait _ hsettle (syncAfter_of_fourBit hmode _), okEvents_append, okEvents_byteUnitOps,
    okEvents_waitOps] at hrun
  exact hrun

/-- R192: the entry-mode byte is one of four. -/
theorem entryModeByte_eq (em : EntryMode) : entryModeByte em = entryModeCommand em := by
  obtain ⟨dir, et⟩ := em
  cases dir <;> cases et <;> decide

theorem settle_entryModeCommand (em : EntryMode) : settle (.byte false (entryModeCommand em)) = 39 := by
  obtain ⟨dir, et⟩ := em
  cases dir <;> cases et <;> rfl

theorem leavesFourBit_entryModeCommand (em : EntryMode) : leavesFourBit (entryModeCommand em) = false := by
  obtain ⟨dir, et⟩ := em
  cases dir <;> cases et <;> rfl

theorem expandSetEntryMode_engine (em : EntryMode) :
    expandSetEntryMode Config.engine em = byteUnitOps false (entryModeCommand em) ++ waitOps 39 := by
  rw [expandSetEntryMode, xfer_engine, entryModeByte_eq]
  rfl

/-- Settles O29: the entry-mode byte and its wait, `ENTRY_MODE` being written at acceptance. -/
theorem setEntryModeRunsToOk : Obligations.SetEntryModeRunsToOk := by
  intro s em rest ps ts hready h
  exact h.steps_of_byte_wait hready rfl rfl rfl (expandSetEntryMode_engine em) (settle_entryModeCommand em).le
    (leavesFourBit_entryModeCommand em)

theorem expandClear_engine : expandClear Config.engine = byteUnitOps false 0x01#8 ++ waitOps 1530 :=
  congrArg (· ++ waitOps 1530) (xfer_engine false 0x01#8)

theorem expandHome_engine : expandHome Config.engine = byteUnitOps false 0x02#8 ++ waitOps 1530 :=
  congrArg (· ++ waitOps 1530) (xfer_engine false 0x02#8)

/-- Settles O30: the two bytes of the long settle class and their wait. -/
theorem clearAndHomeRunToOk : Obligations.ClearAndHomeRunToOk := by
  intro s rest ps ts hready
  exact ⟨fun h => h.steps_of_byte_wait hready rfl rfl rfl expandClear_engine (by decide) (by decide),
    fun h => h.steps_of_byte_wait hready rfl rfl rfl expandHome_engine (by decide) (by decide)⟩

/-! ### Addresses -/

/-- R291, R295 (b): the bytes from 0x40 up are of the short settle class and stay in 4-bit mode. -/
theorem settle_addressByte {x : Byte} (h : 0x40 ≤ x.toNat) : settle (.byte false x) ≤ 39 := by
  rw [settle_byte_command, if_neg]
  rintro (rfl | rfl | rfl) <;> simp at h

theorem leavesFourBit_addressByte {x : Byte} (h : 0x40 ≤ x.toNat) : leavesFourBit x = false := by
  rw [leavesFourBit_eq]
  exact decide_eq_false (by omega)

/-- R211: the row's base is 0x40 times the row. -/
theorem toNat_ddramAddr {col row : Byte} (hcol : col.toNat ≤ 15) (hrow : row.toNat ≤ 1) :
    (ddramAddr Config.engine col row).toNat = row.toNat * 0x40 + col.toNat := by
  obtain hzero | hone := Nat.le_one_iff_eq_zero_or_eq_one.mp hrow
  · obtain rfl : row = 0#8 := BitVec.eq_of_toNat_eq hzero
    simp [ddramAddr, rowBase]
  · obtain rfl : row = 1#8 := BitVec.eq_of_toNat_eq hone
    simp [ddramAddr, rowBase]
    omega

/-- R211: a DDRAM address stands below bit 7, so 0x80 is added to it. -/
theorem cursorByte_eq {col row : Byte} (hcol : col.toNat ≤ 15) (hrow : row.toNat ≤ 1) :
    cursorByte Config.engine col row = BitVec.ofNat 8 (0x80 + row.toNat * 0x40 + col.toNat) := by
  have haddr := toNat_ddramAddr hcol hrow
  have hbyte : (cursorByte Config.engine col row).toNat = 0x80 + (ddramAddr Config.engine col row).toNat := by
    simpa [cursorByte] using (Nat.two_pow_add_eq_or_of_lt (i := 7) (by omega) 1).symm
  rw [Nat.add_assoc, ← haddr, ← hbyte, BitVec.ofNat_toNat, BitVec.setWidth_eq]

/-- R216: the command byte of a CGRAM address in range. -/
theorem cgramByte_eq {addr : Byte} (h : addr.toNat < 32) : cgramByte addr = BitVec.ofNat 8 (0x40 + addr.toNat) := by
  rw [← toNat_cgramByte (by omega), BitVec.ofNat_toNat, BitVec.setWidth_eq]

theorem expandSetCursor_engine {col row : Byte} (hcol : col.toNat ≤ 15) (hrow : row.toNat ≤ 1) :
    expandSetCursor Config.engine col row =
      byteUnitOps false (BitVec.ofNat 8 (0x80 + row.toNat * 0x40 + col.toNat)) ++ waitOps 39 := by
  rw [expandSetCursor, xfer_engine, cursorByte_eq hcol hrow]
  rfl

theorem expandSetCgramAddr_engine {addr : Byte} (h : addr.toNat < 32) :
    expandSetCgramAddr Config.engine addr = byteUnitOps false (BitVec.ofNat 8 (0x40 + addr.toNat)) ++ waitOps 39 := by
  rw [expandSetCgramAddr, xfer_engine, cgramByte_eq h]
  rfl

theorem cursorValid_engine {col row : Byte} (hcol : col.toNat ≤ 15) (hrow : row.toNat ≤ 1) :
    cursorValid Config.engine col row = true :=
  (Bool.and_eq_true _ _).mpr ⟨decide_eq_true (Nat.lt_succ_of_le hcol), decide_eq_true (Nat.lt_succ_of_le hrow)⟩

/-- Settles O31: the address byte, which is 0x40 or more, and its wait. -/
theorem addressRequestsRunToOk : Obligations.AddressRequestsRunToOk := by
  intro s rest ps ts hready
  refine ⟨fun col row hcol hrow h => ?_, fun addr haddr h => ?_⟩
  · have hbyte : 0x40 ≤ (BitVec.ofNat 8 (0x80 + row.toNat * 0x40 + col.toNat)).toNat := by
      rw [BitVec.toNat_ofNat]
      omega
    exact h.steps_of_byte_wait hready rfl rfl (cursorValid_engine hcol hrow) (expandSetCursor_engine hcol hrow)
      (settle_addressByte hbyte) (leavesFourBit_addressByte hbyte)
  · have hbyte : 0x40 ≤ (BitVec.ofNat 8 (0x40 + addr.toNat)).toNat := by
      rw [BitVec.toNat_ofNat]
      omega
    exact h.steps_of_byte_wait hready rfl rfl (decide_eq_true haddr) (expandSetCgramAddr_engine haddr)
      (settle_addressByte hbyte) (leavesFourBit_addressByte hbyte)

/-! ### INIT -/

theorem expandResync_engine :
    expandResync Config.engine Config.engine.resync =
      resyncUnitOps 0x3#4 false ++ waitOps 150 ++ (resyncUnitOps 0x3#4 false ++ waitOps 150 ++
        (resyncUnitOps 0x3#4 false ++ waitOps 150 ++ (resyncUnitOps 0x2#4 true ++ waitOps 150 ++ []))) := by
  simp only [Config.engine_resync, expandResync, xferNib_eq_resyncUnitOps Config.engine_tPulse]
  rfl

theorem expandInit_engine (em : EntryMode) : expandInit Config.engine em = initOps (entryModeCommand em) := by
  rw [expandInit, expandResync_engine, xfer_engine, xfer_engine, xfer_engine, entryModeByte_eq]
  simp [initOps, clearByte, waitOps, settleWait]

@[simp] theorem okEvents_initOps (x : Byte) : okEvents (initOps x) = initEvents x := by
  simp [initOps, initEvents]

/-- R142, R292, R294: a re-sync unit's wait covers its settle time. -/
theorem Board.afterOks_resync_wait (b : Board) (n : Nibble) (last : Bool) :
    b.afterOks (resyncUnitOps n last ++ waitOps 150) =
      { pinLvl := (b.pinLvl.set .rs (.level false)).withNibble n
        settleDebt := 0
        hazard := b.hazard || owes b.settleDebt
        sync := last || b.sync } := by
  rw [Board.afterOks_append, Board.afterOks_resyncUnitOps, Board.afterOks_waitOps, Bool.or_false,
    Nat.sub_eq_zero_of_le (show Config.sResync ≤ 150 from le_rfl)]

/-- R148: INIT's power-up wait, and its units, each with its wait. -/
theorem initOps_eq_units (x : Byte) :
    initOps x = waitOps 50000 ++ ((resyncUnitOps 0x3#4 false ++ waitOps 150) ++
      ((resyncUnitOps 0x3#4 false ++ waitOps 150) ++ ((resyncUnitOps 0x3#4 false ++ waitOps 150) ++
      ((resyncUnitOps 0x2#4 true ++ waitOps 150) ++ ((byteUnitOps false 0x0C#8 ++ waitOps 39) ++
      ((byteUnitOps false 0x01#8 ++ waitOps 1530) ++ (byteUnitOps false x ++ waitOps 39))))))) := by
  simp [initOps]

/-- R146, R149 (d): from the power-up debt INIT's waits cover every settle time, and its last re-sync unit sets
`SYNC`. -/
theorem Board.afterOks_initOps {b : Board} (hdebt : b.settleDebt = 50000) (hnone : b.hazard = false) {x : Byte}
    (hsettle : settle (.byte false x) ≤ 39) (hmode : leavesFourBit x = false) :
    b.afterOks (initOps x) = { pinLvl := busLevels false x, settleDebt := 0, hazard := false, sync := true } := by
  have hdisplay : settle (.byte false 0x0C#8) ≤ 39 := by decide
  have hclear : settle (.byte false 0x01#8) ≤ 1530 := by decide
  rw [initOps_eq_units, Board.afterOks_append, Board.afterOks_waitOps]
  iterate 4 rw [Board.afterOks_append, Board.afterOks_resync_wait]
  rw [Board.afterOks_append, Board.afterOks_byte_wait _ hdisplay (syncAfter_of_fourBit (by decide) _),
    Board.afterOks_append, Board.afterOks_byte_wait _ hclear (syncAfter_of_fourBit (by decide) _),
    Board.afterOks_byte_wait _ hsettle (syncAfter_of_fourBit hmode _)]
  simp [hdebt, hnone, owes]

/-- Settles O25: INIT's units, from the power-up debt. -/
theorem initRunsToReady : Obligations.InitRunsToReady := by
  intro s rest ps ts hlife h
  have hrun := h.steps_of_accepts (ops := initOps (entryModeCommand s.entryMode)) rfl (by rw [hlife]; rfl) rfl
    (expandInit_engine s.entryMode)
  rw [Board.afterOks_initOps rfl rfl (settle_entryModeCommand s.entryMode).le
    (leavesFourBit_entryModeCommand s.entryMode), okEvents_initOps] at hrun
  exact hrun

/-! ### PRINT -/

/-- R168: the last character is followed by `P_T_TAIL`. -/
theorem printOps_singleton (c : Byte) : printOps [c] = byteUnitOps true c ++ waitOps 1530 := rfl

/-- R168: the characters before the last are followed by `P_T_CHAR`. -/
theorem printOps_cons (c d : Byte) (payload : List Byte) :
    printOps (c :: d :: payload) = byteUnitOps true c ++ waitOps 320 ++ printOps (d :: payload) := by
  simp [printOps, List.range_succ_eq_map, List.flatMap_map, Nat.succ_le_iff]

theorem expandPrint_engine (payload : List Byte) : expandPrint Config.engine payload = printOps payload := by
  induction payload using expandPrint.induct with
  | case1 => rfl
  | case2 c =>
    rw [expandPrint, xfer_engine, printOps_singleton]
    rfl
  | case3 c d rest ih =>
    rw [expandPrint, xfer_engine, ih, printOps_cons]
    rfl

theorem okEvents_printOps (payload : List Byte) : okEvents (printOps payload) = printEvents payload := by
  induction payload using printEvents.induct with
  | case1 => rfl
  | case2 c => simp [printOps_singleton, printEvents]
  | case3 c d rest ih => simp [printOps_cons, printEvents, ih]

/-- R171, R293: the wait after each character covers its settle time, so only the first can find a debt; `SYNC` stays as
it was, so a later one finds it cleared only where the first did. -/
theorem Board.afterOks_printOps (b : Board) (chars : List Byte) (last : Byte) :
    b.afterOks (printOps (chars ++ [last])) =
      { b with
        pinLvl := busLevels true last, settleDebt := 0, hazard := b.hazard || owes b.settleDebt || !b.sync } := by
  induction chars generalizing b with
  | nil =>
    have hcovered : settle (.byte true last) ≤ 1530 := show 320 ≤ 1530 by decide
    exact b.afterOks_byte_wait hcovered rfl
  | cons c chars ih =>
    have hcovered : settle (.byte true c) ≤ 320 := le_rfl
    obtain ⟨d, payload, hrest⟩ := List.exists_cons_of_ne_nil (show chars ++ [last] ≠ [] by simp)
    rw [hrest] at ih
    rw [List.cons_append, hrest, printOps_cons, Board.afterOks_append, Board.afterOks_byte_wait _ hcovered rfl, ih]
    simp [owes, Bool.or_assoc]

theorem pinCount_append (ops rest : List MicroOp) : pinCount (ops ++ rest) = pinCount ops + pinCount rest :=
  List.countP_append

theorem pinCount_printOps (payload : List Byte) : pinCount (printOps payload) = 13 * payload.length := by
  induction payload using printEvents.induct with
  | case1 => rfl
  | case2 c => rfl
  | case3 c d rest ih =>
    have hfirst : pinCount (byteUnitOps true c ++ waitOps 320) = 13 := rfl
    rw [printOps_cons, pinCount_append, hfirst, ih]
    simp only [List.length_cons]
    omega

theorem length_printOps (payload : List Byte) : (printOps payload).length = 14 * payload.length := by
  induction payload using printEvents.induct with
  | case1 => rfl
  | case2 c => rfl
  | case3 c d rest ih =>
    have hfirst : (byteUnitOps true c ++ waitOps 320).length = 14 := rfl
    rw [printOps_cons, List.length_append, hfirst, ih]
    simp only [List.length_cons]
    omega

theorem waitCount_printOps (payload : List Byte) : waitCount (printOps payload) = payload.length := by
  have htotal := pinCount_add_waitCount (printOps payload)
  rw [pinCount_printOps, length_printOps] at htotal
  omega

/-- Settles O28: the characters in order, and an empty PRINT, which loads nothing. -/
theorem printRunsToOk : Obligations.PrintRunsToOk := by
  refine ⟨fun s chars last rest ps ts hready hlength h => ?_, fun s rest ps ts hready h => ?_⟩
  · have hwell : (Instr.print (chars ++ [last])).wellFormed = true := decide_eq_true hlength
    have hchars : (chars ++ [last]).length = chars.length + 1 := List.length_append
    rw [← hchars, ← pinCount_printOps, ← waitCount_printOps] at h
    have hrun := h.steps_of_accepts hwell (by rw [hready]; rfl) rfl (expandPrint_engine (chars ++ [last]))
    rw [length_printOps, hchars, Board.afterOks_printOps, okEvents_printOps] at hrun
    exact hrun
  · exact h.steps_of_accepts (ops := []) rfl (by rw [hready]; rfl) rfl rfl

/-! ### INIT failing -/

/-- V-S8: INIT FourBit is offered to the reset engine; the pin port answers ok five times, then `err(e)`. -/
def failingInit (e : PinErr) : State :=
  { State.reset with
    offers := [encode (.init .fourBit)]
    pinScript := List.replicate 5 (some .ok) ++ [some (.err e)]
    timerScript := [some .ok] }

/-- INIT's micro-ops before its third write of level 1, which is its first EN high. -/
def initOpsBeforeEnHigh : List MicroOp := waitOps 50000 ++ (resyncUnitOps 0x3#4 false).take 5

/-- V-S8 before its seventh micro-op. -/
def failingInitAtEnHigh (e : PinErr) : State :=
  ((failingInit e).powerUp.loaded (encode (.init .fourBit)) [] (initOps 0x06#8)).ranOps initOpsBeforeEnHigh
    [some (.err e)] []

/-- V-S8 up to the failure: the acceptance and six micro-ops answered ok. -/
theorem steps_failingInit (e : PinErr) : steps 7 (failingInit e) = .next (failingInitAtEnHigh e) := by
  have haccepted := step_of_accepts (s := failingInit e) (i := .init .fourBit) rfl rfl rfl
    (decodeOfEncodeIsIdentity _ rfl) rfl rfl
  have hops : expansion Config.engine (failingInit e).entryMode (.init .fourBit) = initOps 0x06#8 :=
    expandInit_engine _
  have hanswers : ((failingInit e).powerUp.loaded (encode (.init .fourBit)) [] (initOps 0x06#8)).AnswersOk
      initOpsBeforeEnHigh [some (.err e)] [] :=
    ⟨rfl, ⟨(initOps 0x06#8).drop 6, rfl⟩, fun _ hlevel => absurd hlevel List.not_mem_nil, rfl, rfl⟩
  exact (steps_succ (hops ▸ haccepted) 6).trans hanswers.steps

@[simp] theorem failingInitAtEnHigh_hazard (e : PinErr) : (failingInitAtEnHigh e).hazard = false := rfl

/-- R294: the power-up wait has covered the power-up debt. -/
@[simp] theorem failingInitAtEnHigh_settleDebt (e : PinErr) : (failingInitAtEnHigh e).settleDebt = 0 :=
  Nat.sub_self 50000

/-- Settles O33: the seventh micro-op is the failing EN high, whose unit has latched nothing. -/
theorem initFailingOnTheThirdSetHigh : Obligations.InitFailingOnTheThirdSetHigh := by
  intro e
  have hfailed := pinWriteAnsweredErr (failingInitAtEnHigh e) .en true (.start (.resync 0x3#4 false)) e rfl rfl rfl rfl
  exact ⟨_, (steps_add (steps_failingInit e) 1).trans ((steps_one _).trans hfailed), rfl, rfl, rfl, rfl,
    failingInitAtEnHigh_settleDebt e, by simp [owes], rfl, rfl, rfl⟩

end Sys2Proof.Machine
end

section
/-! INIT at acceptance (R141..R148), the operands that are refused before any micro-op (R144, R210, R215), and
why an accepted request is settled from its acceptance on (R146, R149 (d), R296). -/

namespace Sys2Proof.Machine

/-! ### The power-on sequence -/

/-- R148: 67 pin writes, seven in each of the four re-sync units and thirteen in each of the three byte units, and eight
waits. -/
theorem length_initOps (x : Byte) : (initOps x).length = 75 := rfl

theorem pinCount_initOps (x : Byte) : pinCount (initOps x) = 67 := rfl

theorem waitTotal_append (ops rest : List MicroOp) : waitTotal (ops ++ rest) = waitTotal ops + waitTotal rest := by
  induction ops with
  | nil => simp [waitTotal]
  | cons op ops ih => cases op <;> simp [waitTotal, ih, Nat.add_assoc]

@[simp] theorem waitTotal_byteUnitOps (rs : Level) (b : Byte) : waitTotal (byteUnitOps rs b) = 0 := rfl

@[simp] theorem waitTotal_resyncUnitOps (n : Nibble) (last : Bool) : waitTotal (resyncUnitOps n last) = 0 := rfl

@[simp] theorem waitTotal_waitOps (d : Nat) : waitTotal (waitOps d) = d := rfl

/-- R148: 50000 + 4 * 150 + 39 + 1530 + 39 µs, since no unit of the engine waits inside. -/
theorem waitTotal_initOps (x : Byte) : waitTotal (initOps x) = 52208 := by
  simp [initOps, waitTotal_append]

/-- R56, R148: INIT's enable pulses are bracketed, so its latch events are its ten EN-low writes. -/
theorem length_latchedStream_initOps (x : Byte) : (latchedStream (okEvents (initOps x))).length = 10 := by
  have hbracketed : eventsBracketed false (okEvents (initOps x)) = true := rfl
  rw [everySuccessfulEnLowIsALatchEvent _ hbracketed]
  rfl

/-- Settles O12: INIT's expansion is the written-out list, whose counts do not depend on its last byte. -/
theorem initLoadsThePowerOnSequence : Obligations.InitLoadsThePowerOnSequence := by
  refine ⟨fun s hlife => ?_, fun x => ⟨length_initOps x, pinCount_initOps x, waitTotal_initOps x,
    length_latchedStream_initOps x⟩⟩
  rw [exec_of_accepts (by rw [hlife]; rfl) rfl, ← expandInit_engine]
  rfl

/-! ### Operands out of range -/

/-- R144: in Uninitialized the 8-bit mode raises UNSUPPORTED_BUS_WIDTH. -/
theorem exec_init_eightBit {s : State} (hlife : s.life = .uninitialized) :
    exec (.init .eightBit) s = .next (s.answeredError .unsupportedBusWidth) :=
  congrArg _ (if_pos hlife)

theorem cursorValid_engine_outOfRange {col row : Byte} (h : 15 < col.toNat ∨ 1 < row.toNat) :
    cursorValid Config.engine col row = false :=
  Bool.and_eq_false_iff.mpr
    (h.imp (fun hcol => decide_eq_false (Nat.not_lt.mpr hcol)) fun hrow => decide_eq_false (Nat.not_lt.mpr hrow))

/-- R210: in Ready a position off the grid raises INVALID_CURSOR_POS. -/
theorem exec_setCursor_outOfRange {s : State} (hready : s.life = .ready) {col row : Byte}
    (h : 15 < col.toNat ∨ 1 < row.toNat) :
    exec (.setCursor col row) s = .next (s.answeredError .invalidCursorPos) := by
  simp [exec, execSetCursor, State.acceptWhen, hready, cursorValid_engine_outOfRange h,
    State.raise_eq_answeredError (c := .invalidCursorPos) rfl, Cause.code]

/-- Settles O11: one range check for each of the three operands. -/
theorem outOfRangeOperandsAreRefused : Obligations.OutOfRangeOperandsAreRefused := fun _ =>
  ⟨exec_init_eightBit, fun hready _ _ => exec_setCursor_outOfRange hready,
    fun hready _ => exec_setCgramAddr_outOfRange hready⟩

/-! ### Settled from acceptance -/

/-- R242, R296: a request is settled once it is loaded when its whole expansion is. -/
theorem State.settled_load {s : State} {ops : List MicroOp} (hpast : s.hazard = false)
    (hcoming : settled s.settleDebt s.sync ops = true) : (s.load ops).Settled :=
  ⟨hpast, fun _ => hcoming⟩

/-- R246: a request that has ended with an error has nothing still to run. -/
theorem State.settled_raise {s : State} (hpast : s.hazard = false) (c : Cause) : (s.raise c).Settled :=
  ⟨hpast, fun hbusy => absurd hbusy Bool.false_ne_true⟩

/-- R146: of the acceptance actions only INIT's writes the scoreboard, and INIT is not accepted in Ready. -/
theorem acceptAction_board_of_ready {i : Instr} (haccepts : accepts .ready i = true) (s : State) :
    (acceptAction i s).board = s.board := by
  cases i with
  | init bw => exact absurd haccepts Bool.false_ne_true
  | _ => rfl

/-- R149 (d), R171 (e), R296: what Ready accepts makes no hazard by itself. -/
theorem settled_expansion {P : Params} (hP : P.Legal) {i : Instr} (haccepts : accepts .ready i = true)
    (em : EntryMode) : settled 0 true (expansion P em i) = true := by
  obtain ⟨-, hcommand, hchar, hprint, hmode, hcursor, hcgram, hclear, hhome, hdelay⟩ :=
    noExpansionMakesAHazardByItself P hP
  cases i with
  | init bw => exact absurd haccepts Bool.false_ne_true
  | command b => exact hcommand b
  | writeChar c => exact hchar c
  | print payload => exact hprint payload
  | setEntryMode dir et => exact hmode ⟨dir, et⟩
  | setCursor col row => exact hcursor col row
  | setCgramAddr addr => exact hcgram addr
  | clear => exact hclear
  | home => exact hhome
  | delay interval => exact hdelay interval

/-- Settles O50: INIT by the power-up debt that its acceptance sets; in Ready a request is refused, or it is accepted
with the scoreboard as it was. -/
theorem acceptedRequestsAreSettled : Obligations.AcceptedRequestsAreSettled := by
  refine ⟨fun s t hlife hexec => ?_, fun i s t hready hdebt hsync hpast hexec => ?_⟩
  · rw [exec_of_accepts (by rw [hlife]; rfl) rfl] at hexec
    obtain rfl := Host.Outcome.next.inj hexec
    exact State.settled_load rfl (settled_expandInit Config.engine_legal s.entryMode)
  · obtain ⟨c, -, hraise⟩ | ⟨haccepts, -, hload⟩ := exec_cases i s
    · obtain rfl := Host.Outcome.next.inj (hraise.symm.trans hexec)
      exact State.settled_raise hpast c
    · obtain rfl := Host.Outcome.next.inj (hload.symm.trans hexec)
      rw [hready] at haccepts
      obtain ⟨-, hdebt', hpast', hsync'⟩ := Board.mk.inj (acceptAction_board_of_ready haccepts s)
      refine State.settled_load (hpast'.trans hpast) ?_
      rw [hdebt', hsync', hdebt, hsync]
      exact settled_expansion Config.engine_legal haccepts s.entryMode

end Sys2Proof.Machine
end

section
/-! The byte transfers at acceptance (R162, R164, R168), and what PRINT's expansion counts to (R115, R170). -/

namespace Sys2Proof.Machine

/-! ### Acceptance in Ready -/

/-- R242: `exec_of_accepts` for a Ready engine, with the expansion given by what it comes to at the engine's parameters
and the loaded state by its fields. -/
theorem exec_of_ready {i : Instr} {s : State} {ops : List MicroOp} (hready : s.life = .ready)
    (haccepts : accepts .ready i = true) (hrange : operandsInRange i = true)
    (hops : expansion Config.engine s.entryMode i = ops) :
    exec i s = .next { acceptAction i s with seq := ops, seqPc := 0 } := by
  rw [exec_of_accepts (hready ▸ haccepts) hrange, hops]
  rfl

/-- Settles O14: PRINT has no acceptance action, and its expansion is the list of R168. -/
theorem printLoadsItsCharactersInOrder : Obligations.PrintLoadsItsCharactersInOrder := fun _ payload hready =>
  exec_of_ready hready rfl rfl (expandPrint_engine payload)

/-- Settles O13: neither request has an acceptance action, and each expands to its one byte unit. -/
theorem commandAndWriteCharLoadOneByteUnit : Obligations.CommandAndWriteCharLoadOneByteUnit := fun _ b hready =>
  ⟨exec_of_ready hready rfl rfl (expandCommand_engine b), exec_of_ready hready rfl rfl (expandWriteChar_engine b)⟩

/-! ### PRINT's counts -/

/-- R115: a pulse wait is no pin write. -/
theorem pinCount_nib (P : Params) (n : Nibble) (u : XferUnit) (high low : Tag) : pinCount (nib P n u high low) = 6 := by
  unfold nib pulseWait
  split <;> rfl

theorem pinCount_xfer (P : Params) (rs : Level) (b : Byte) : pinCount (xfer P rs b) = 13 := by
  simp only [xfer, pinCount_append, pinCount_nib]
  rfl

/-- R170: one wait follows each character's unit, whatever the unit's size. -/
theorem length_expandPrint {P : Params} {unit : Nat} (hunit : ∀ c : Byte, (xfer P true c).length = unit)
    (payload : List Byte) : (expandPrint P payload).length = (unit + 1) * payload.length := by
  induction payload using expandPrint.induct with
  | case1 => rfl
  | case2 c => simp [expandPrint, settleWait, hunit]
  | case3 c d rest ih =>
    rw [expandPrint, List.length_append, List.length_append, hunit, ih, settleWait, List.length_singleton,
      List.length_cons (as := d :: rest), Nat.mul_succ, Nat.add_comm]

theorem pinCount_settleWait (d : Nat) : pinCount (settleWait d) = 0 := rfl

theorem pinCount_expandPrint (P : Params) (payload : List Byte) :
    pinCount (expandPrint P payload) = 13 * payload.length := by
  induction payload using expandPrint.induct with
  | case1 => rfl
  | case2 c => rw [expandPrint, pinCount_append, pinCount_xfer, pinCount_settleWait]; rfl
  | case3 c d rest ih =>
    rw [expandPrint, pinCount_append, pinCount_append, pinCount_xfer, pinCount_settleWait, ih,
      List.length_cons (as := d :: rest), Nat.mul_succ, Nat.add_comm]

theorem length_expandPrint_of_noPulse {P : Params} (h : P.tPulse = 0) (payload : List Byte) :
    (expandPrint P payload).length = 14 * payload.length :=
  length_expandPrint (fun c => by rw [length_xfer, pulseWait_eq_nil h]; rfl) payload

theorem length_expandPrint_of_pulse {P : Params} (h : 0 < P.tPulse) (payload : List Byte) :
    (expandPrint P payload).length = 16 * payload.length :=
  length_expandPrint (fun c => by rw [length_xfer, pulseWait_eq_wait h]; rfl) payload

/-- R170, R301: 320 µs for each character before the last, and 1530 µs for the last. -/
theorem waitTotal_printOps_cons (c : Byte) (rest : List Byte) :
    waitTotal (printOps (c :: rest)) = rest.length * 320 + 1530 := by
  induction rest generalizing c with
  | nil => simp [printOps_singleton, waitTotal_append]
  | cons d rest ih =>
    rw [printOps_cons, waitTotal_append, waitTotal_append, ih]
    simp only [waitTotal_byteUnitOps, waitTotal_waitOps, List.length_cons]
    omega

/-- Settles O53: the counts at every length, and from them those at the largest. -/
theorem printCounts : Obligations.PrintCounts := by
  intro P payload
  refine ⟨fun hnone => ⟨length_expandPrint_of_noPulse hnone payload, pinCount_expandPrint P payload⟩,
    fun hpulse => ⟨length_expandPrint_of_pulse hpulse payload, pinCount_expandPrint P payload⟩,
    fun hlargest => ⟨fun hnone => ?_, fun hpulse => ?_, ?_⟩⟩
  · rw [length_expandPrint_of_noPulse hnone, hlargest]
  · rw [length_expandPrint_of_pulse hpulse, hlargest]
  · obtain ⟨c, rest, rfl⟩ := List.exists_cons_of_length_eq_add_one hlargest
    have hrest : rest.length = 65534 := Nat.succ.inj hlargest
    rw [expandPrint_engine, waitTotal_printOps_cons, hrest]

end Sys2Proof.Machine
end

section
/-! The fixed commands at acceptance (R190, R191, R195, R200), and the words and bytes of SET_ENTRY_MODE (R192). -/

namespace Sys2Proof.Machine

/-- Settles O15: SET_ENTRY_MODE's acceptance action writes `ENTRY_MODE`, CLEAR and HOME have none, and each expands to
its byte unit and its settle wait. -/
theorem fixedCommandsLoadTheirByteAndSettle : Obligations.FixedCommandsLoadTheirByteAndSettle := fun _ hready =>
  ⟨fun _ _ => exec_of_ready hready rfl rfl (expandSetEntryMode_engine _),
    exec_of_ready hready rfl rfl expandClear_engine, exec_of_ready hready rfl rfl expandHome_engine⟩

/-- Settles O58: each word is its opcode and its area, and each byte is the table's. -/
theorem entryModeCommandBytes : Obligations.EntryModeCommandBytes :=
  ⟨⟨BitVec.eq_of_toNat_eq (toNat_encodeWord _), entryModeByte_eq _⟩,
    ⟨BitVec.eq_of_toNat_eq (toNat_encodeWord _), entryModeByte_eq _⟩,
    ⟨BitVec.eq_of_toNat_eq (toNat_encodeWord _), entryModeByte_eq _⟩,
    ⟨BitVec.eq_of_toNat_eq (toNat_encodeWord _), entryModeByte_eq _⟩⟩

end Sys2Proof.Machine
end

section
/-! The address requests at acceptance (R211, R212, R216), and the bytes and answers of every cursor position (R213). -/

namespace Sys2Proof.Machine

/-- Settles O16: with its operands in range each request expands to its address byte and its settle wait. -/
theorem addressRequestsLoadTheirByteAndSettle : Obligations.AddressRequestsLoadTheirByteAndSettle := fun _ hready =>
  ⟨fun _ _ hcol hrow =>
      exec_of_ready hready rfl (cursorValid_engine hcol hrow) (expandSetCursor_engine hcol hrow),
    fun _ haddr => exec_of_ready hready rfl (decide_eq_true haddr) (expandSetCgramAddr_engine haddr)⟩

/-- R211: on the grid the cursor byte stays below 256, so its number is the sum. -/
theorem toNat_cursorByte {col row : Byte} (hcol : col.toNat ≤ 15) (hrow : row.toNat ≤ 1) :
    (cursorByte Config.engine col row).toNat = 0x80 + row.toNat * 0x40 + col.toNat := by
  rw [cursorByte_eq hcol hrow, BitVec.toNat_ofNat]
  omega

/-- R210, R243: outside Ready a position is not looked at. -/
theorem exec_setCursor_of_not_ready {s : State} (h : s.life ≠ .ready) (col row : Byte) :
    exec (.setCursor col row) s = .next (s.answeredError .notReady) :=
  congrArg _ ((if_neg h).trans (State.raise_eq_answeredError rfl s))

/-- Settles O59: the bytes by their arithmetic, the corners by evaluation, the answers by the state check and the range
check. -/
theorem cursorCommandBytes : Obligations.CursorCommandBytes := by
  refine ⟨fun col hcol => ⟨toNat_cursorByte hcol (by decide), toNat_cursorByte hcol (by decide)⟩,
    by decide, by decide, by decide, by decide, fun s hready => ?ready, fun s col row hfailed => ?failed⟩
  case ready =>
    exact ⟨fun _ _ => exec_setCursor_outOfRange hready, exec_setCursor_outOfRange hready (.inl (by decide)),
      exec_setCursor_outOfRange hready (.inr (by decide)), exec_setCursor_outOfRange hready (.inl (by decide))⟩
  case failed =>
    have hnot : s.life ≠ .ready := by simp [hfailed]
    exact exec_setCursor_of_not_ready hnot col row

end Sys2Proof.Machine
end

section
/-! DELAY at acceptance (R230). -/

namespace Sys2Proof.Machine

/-- R230: DELAY's expansion is its one wait, whatever the interval and the parameters. -/
theorem expandDelay_eq_waitOps (interval : Interval) : expandDelay interval = waitOps interval.toNat := rfl

/-- Settles O17: DELAY has no acceptance action and no operand check, and it expands to its one wait. -/
theorem delayLoadsOneWait : Obligations.DelayLoadsOneWait := fun _ interval hready =>
  exec_of_ready hready rfl rfl (expandDelay_eq_waitOps interval)

end Sys2Proof.Machine
end

section
/-! What is refused by the state check (R23, R243), and a port that never answers (R264). -/

namespace Sys2Proof.Machine

/-! ### The state check -/

/-- The one value of `LIFE` in which a request is accepted (R23). -/
def acceptingLife : Instr → Life
  | .init _ => .uninitialized
  | _ => .ready

theorem accepts_iff (l : Life) (i : Instr) : accepts l i = true ↔ l = acceptingLife i := by
  cases i <;> exact beq_iff_eq

theorem eq_acceptingLife_iff (l : Life) (i : Instr) :
    l = acceptingLife i ↔
      ((∃ bw, i = .init bw) ∧ l = .uninitialized) ∨ ((∀ bw, i ≠ .init bw) ∧ l = .ready) := by
  cases i with
  | init bw => simp [acceptingLife]
  | _ => simp [acceptingLife]

/-- R242, R243: the state check comes first in every request, before anything is done with its operands. -/
theorem exec_eq_acceptWhen (i : Instr) :
    ∃ accepted : State → State, ∀ s, exec i s = .next (s.acceptWhen (acceptingLife i) accepted) := by
  cases i <;> exact ⟨_, fun _ => rfl⟩

theorem State.acceptWhen_of_ne {s : State} {want : Life} (h : s.life ≠ want) (accepted : State → State) :
    s.acceptWhen want accepted = s.answeredError .notReady :=
  (if_neg h).trans (State.raise_eq_answeredError rfl s)

/-- R243: a request that LIFE does not accept is answered NOT_READY, whatever its operands. -/
theorem exec_of_not_accepts {i : Instr} {s : State} (h : accepts s.life i = false) :
    exec i s = .next (s.answeredError .notReady) := by
  have hlife : s.life ≠ acceptingLife i := fun heq => Bool.eq_false_iff.mp h ((accepts_iff s.life i).mpr heq)
  obtain ⟨accepted, hexec⟩ := exec_eq_acceptWhen i
  rw [hexec, State.acceptWhen_of_ne hlife]

/-- Settles O10: each request has the one value of `LIFE` that accepts it, and its state check raises in the others. -/
theorem notReadyRefusesAndChangesNothing : Obligations.NotReadyRefusesAndChangesNothing :=
  ⟨fun l i => (accepts_iff l i).trans (eq_acceptingLife_iff l i), fun _ _ => exec_of_not_accepts⟩

/-! ### A silent port -/

theorem runPin_silent {s : State} (hsilent : s.pinAnswer = none) (p : Line) (v : Level) (tag : Tag) :
    runPin p v tag s = .fault (.pinPortSilent p) := by
  rw [runPin, hsilent]

theorem runWait_silent {s : State} (hsilent : s.timerAnswer = none) (d : Nat) (tag : Tag) :
    runWait d tag s = .fault .timerSilent := by
  rw [runWait, hsilent]

/-- Settles O23: the step runs the micro-op at `SEQ_PC`, which has no next state without an answer. -/
theorem silentPortsLeaveTheEngineStuck : Obligations.SilentPortsLeaveTheEngineStuck := fun s hbusy hlow =>
  ⟨fun p v tag hop hsilent =>
      (step_of_microOp hbusy hlow hop).trans (runPin_silent (s := s.resetSampled) hsilent p v tag),
    fun d tag hop hsilent =>
      (step_of_microOp hbusy hlow hop).trans (runWait_silent (s := s.resetSampled) hsilent d tag)⟩

end Sys2Proof.Machine
end

section
/-! A settled request to its end (R292..R296): pin writes and waits, whatever the answer, set no hazard, and leave the
scoreboard as `settled` reckons it for the micro-ops after them. -/

namespace Sys2Proof.Machine

/-- R293: the unit-start check finds nothing at a micro-op that `settled` passes. -/
theorem State.unitStart_hazard_of_settled {s : State} {p : Line} {v : Level} {tag : Tag} {rest : List MicroOp}
    (h : settled s.settleDebt s.sync (.pin p v tag :: rest) = true) : (s.unitStart tag).hazard = s.hazard := by
  cases tag with
  | start u =>
    obtain ⟨⟨hdebt, hsync⟩, -⟩ : (s.settleDebt = 0 ∧ (s.sync = true ∨ isByteUnit u = false)) ∧ _ := by
      simpa [settled] using h
    cases hsync with
    | inl hin => simp [hdebt, hin, owes]
    | inr hresync => simp [hdebt, hresync, owes]
  | outside | inside u | stop u => rfl

/-- R292: the unit-end update is the one that `settled` makes. -/
theorem State.settled_unitEnd {s : State} {p : Line} {v : Level} {tag : Tag} {rest : List MicroOp}
    (h : settled s.settleDebt s.sync (.pin p v tag :: rest) = true) :
    settled (s.unitEnd tag).settleDebt (s.unitEnd tag).sync rest = true := by
  cases tag with
  | start u => exact ((Bool.and_eq_true _ _).mp h).2
  | outside | inside u | stop u => exact h

theorem State.Settled.resetSampled {s : State} (h : s.Settled) : s.resetSampled.Settled := ⟨h.past, h.coming⟩

/-- The micro-op that a busy engine is at is passed, with those after it. -/
theorem State.Settled.settled_at {s : State} (h : s.Settled) (hbusy : s.busy = true) {op : MicroOp}
    (hop : s.seq[s.seqPc]? = some op) : settled s.settleDebt s.sync (op :: s.seq.drop (s.seqPc + 1)) = true := by
  obtain ⟨hpc, rfl⟩ := List.getElem?_eq_some_iff.mp hop
  rw [List.getElem_cons_drop]
  exact h.coming hbusy

theorem State.Settled.afterPinOk {s : State} (h : s.Settled) (hbusy : s.busy = true) {p : Line} {v : Level} {tag : Tag}
    (hop : s.seq[s.seqPc]? = some (.pin p v tag)) : (afterPinOk s p v tag).Settled := by
  have hat := h.settled_at hbusy hop
  have hhazard := (State.unitStart_hazard_of_settled hat).trans h.past
  rw [afterPinOk_eq]
  exact ⟨hhazard, fun _ => by simpa using State.settled_unitEnd hat⟩

/-- R293: the unit-start check comes before the answer, so a write that fails has passed it too. -/
theorem State.Settled.afterPinErr {s : State} (h : s.Settled) (hbusy : s.busy = true) {p : Line} {v : Level} {tag : Tag}
    (hop : s.seq[s.seqPc]? = some (.pin p v tag)) (e : PinErr) : (afterPinErr s p v tag e).Settled := by
  have hhazard := (State.unitStart_hazard_of_settled (h.settled_at hbusy hop)).trans h.past
  exact State.settled_raise (by simpa using hhazard) _

/-- R294: a wait that answers ok lowers the debt as `settled` reckons. -/
theorem State.Settled.afterWaitOk {s : State} (h : s.Settled) (hbusy : s.busy = true) {d : Nat} {tag : Tag}
    (hop : s.seq[s.seqPc]? = some (.wait d tag)) : (afterWaitOk s d).Settled where
  past := by simpa [Machine.afterWaitOk] using h.past
  coming _ := by simpa [Machine.afterWaitOk, settled] using h.settled_at hbusy hop

theorem State.Settled.afterWaitErr {s : State} (h : s.Settled) (d : Nat) (tag : Tag) :
    (afterWaitErr s d tag).Settled :=
  State.settled_raise (by simpa using h.past) _

theorem State.Settled.complete {s : State} (h : s.Settled) : s.complete.Settled where
  past := by simpa using h.past
  coming := by simp

theorem State.Settled.busyStep {s t : State} (h : s.Settled) (hbusy : s.busy = true) (hstep : busyStep s = .next t) :
    t.Settled := by
  obtain ⟨p, v, tag, hop, ⟨-, rfl⟩ | ⟨e, -, rfl⟩⟩ | ⟨d, tag, hop, ⟨-, rfl⟩ | ⟨-, rfl⟩⟩ | ⟨-, rfl⟩ :=
    busyStep_cases hstep
  · exact h.afterPinOk hbusy hop
  · exact h.afterPinErr hbusy hop e
  · exact h.afterWaitOk hbusy hop
  · exact h.afterWaitErr d tag
  · exact h.complete

/-- Settles O49: each way of a busy step keeps it, and reset clears `HAZARD`. -/
theorem settledRequestsNeverSetHazard : Obligations.SettledRequestsNeverSetHazard := by
  intro s t hsettled hbusy hstep
  obtain ⟨-, rfl⟩ | ⟨-, -, hbusyStep⟩ | ⟨-, hidle, -⟩ := step_cases hstep
  · exact ⟨rfl, by simp⟩
  · exact hsettled.resetSampled.busyStep hbusy hbusyStep
  · simp [hbusy] at hidle

end Sys2Proof.Machine
end

section
/-! The settle classes in numbers (R291), and the least total wait of each request (R301). -/

namespace Sys2Proof.Machine

/-- R291: the bytes from 0x30 up, among them those that clear `SYNC` (R295), are of the short settle class. -/
theorem settle_byte_command_of_le {b : Byte} (h : 0x30 ≤ b.toNat) : settle (.byte false b) = 39 := by
  rw [settle_byte_command, if_neg]
  rintro (rfl | rfl | rfl) <;> simp at h

/-- Settles O47: re-sync units and characters have one class each, command bytes the two of `settle_byte_command`. -/
theorem settleClasses : Obligations.SettleClasses :=
  ⟨fun _ _ => rfl, settle_byte_command, fun _ => rfl, fun _ h => settle_byte_command_of_le h.1⟩

@[simp] theorem waitTotal_settleWait (d : Nat) : waitTotal (settleWait d) = d := rfl

/-- R112: without a pulse wait a byte unit waits for nothing. -/
@[simp] theorem waitTotal_xfer_engine (rs : Level) (b : Byte) : waitTotal (xfer Config.engine rs b) = 0 := by
  rw [xfer_engine, waitTotal_byteUnitOps]

/-- R301: a byte and its settle wait. -/
theorem waitTotal_xfer_settleWait (rs : Level) (b : Byte) (d : Nat) :
    waitTotal (xfer Config.engine rs b ++ settleWait d) = d := by
  simp [waitTotal_append]

theorem waitTotal_expandPrint_engine {payload : List Byte} (h : payload ≠ []) :
    waitTotal (expandPrint Config.engine payload) = (payload.length - 1) * 320 + 1530 := by
  obtain ⟨c, rest, rfl⟩ := List.exists_cons_of_ne_nil h
  rw [expandPrint_engine, waitTotal_printOps_cons]
  rfl

/-- Settles O54: INIT and PRINT by their written-out lists, every other request by its byte and its settle wait. -/
theorem leastTotalWaits : Obligations.LeastTotalWaits :=
  ⟨fun em => (congrArg waitTotal (expandInit_engine em)).trans (waitTotal_initOps _),
    fun b => ⟨waitTotal_xfer_engine false b, waitTotal_xfer_engine true b⟩,
    fun _ => waitTotal_expandPrint_engine,
    rfl,
    fun em => waitTotal_xfer_settleWait false (entryModeByte em) 39,
    fun col row => waitTotal_xfer_settleWait false (cursorByte Config.engine col row) 39,
    fun addr => waitTotal_xfer_settleWait false (cgramByte addr) 39,
    waitTotal_xfer_settleWait false clearByte 1530,
    waitTotal_xfer_settleWait false homeByte 1530,
    fun interval => waitTotal_settleWait interval.toNat⟩

end Sys2Proof.Machine
end

section
/-! Reset (R280, R281): the reset values, the step that gives them, and the invariants that they meet. -/

namespace Sys2Proof.Machine

/-- R280: every line is X. -/
theorem PinLevels.get_unknown (p : Line) : PinLevels.unknown.get p = .x := by
  cases p <;> rfl

/-- Settles O1: each register's value is written in `State.reset`. -/
theorem resetSetsEveryRegister : Obligations.ResetSetsEveryRegister :=
  ⟨rfl, rfl, rfl, rfl, rfl, rfl, PinLevels.get_unknown, rfl, rfl, rfl, rfl⟩

theorem State.resetNow_of_high {s : State} {rest : List Bool} (h : s.resetLine = true :: rest) :
    s.resetNow = true := by
  simp [State.resetNow, h]

/-- Settles O2: a high reset input comes before everything else a step does. -/
theorem resetCutsARequestOffWithoutResponse : Obligations.ResetCutsARequestOffWithoutResponse := by
  intro s rest hhigh
  rw [step_of_reset (State.resetNow_of_high hhigh)]
  simp [State.resetEngine, hhigh]

/-- Settles O42: the registers as after any reset, and no event has been traced. -/
theorem resetMeetsTheInvariants : Obligations.ResetMeetsTheInvariants :=
  ⟨registersOk_resetEngine State.reset, rfl, rfl, fun hbusy => absurd hbusy Bool.false_ne_true, fun _ _ => rfl⟩

end Sys2Proof.Machine
end

section
/-! The words of R84..R92 and of V-E1..V-E12 that the spec writes out. -/

namespace Sys2Proof

/-- A word whose opcode is in no row of R83. -/
theorem decode_of_reservedOpcode {w : Word} {op area : Nat} (hw : w.toNat = op * 2 ^ 28 + area) (harea : area < 2 ^ 28)
    (hop : op = 0 ∨ 0xB ≤ op) (payload : List Byte) : decode ⟨w, payload⟩ = .error .reservedOpcode :=
  (decode_eq_wordTable hw harea payload).trans (wordTable_reservedOpcode hop area payload)

/-- Settles O7: a request's word is the encoder's, so it decodes to the request; the illegal words have an opcode or an
area that the table refuses. -/
theorem specWordsDecode : Obligations.SpecWordsDecode :=
  ⟨decodeOfEncodeIsIdentity (.init .fourBit) rfl,
    decodeOfEncodeIsIdentity (.init .eightBit) rfl,
    decodeOfEncodeIsIdentity (.command 0x0C#8) rfl,
    decodeOfEncodeIsIdentity (.writeChar 0x48#8) rfl,
    decodeOfEncodeIsIdentity (.print [0x48#8, 0x69#8]) rfl,
    decodeOfEncodeIsIdentity (.setEntryMode .leftToRight true) rfl,
    decodeOfEncodeIsIdentity (.setEntryMode .rightToLeft false) rfl,
    decodeOfEncodeIsIdentity (.setCursor 5#8 1#8) rfl,
    decodeOfEncodeIsIdentity (.setCgramAddr 8#8) rfl,
    decodeOfEncodeIsIdentity .clear rfl,
    decodeOfEncodeIsIdentity .home rfl,
    decodeOfEncodeIsIdentity (.delay 39#28) rfl,
    decode_of_reservedOpcode (op := 0x0) (area := 0) (by decide) (by decide) (by decide) [],
    decode_of_reservedOpcode (op := 0xF) (area := 0x1234567) (by decide) (by decide) (by decide) [],
    decode_eq_wordTable (op := 0x1) (area := 2) (by decide) (by decide) [],
    decode_eq_wordTable (op := 0x8) (area := 1) (by decide) (by decide) []⟩

end Sys2Proof
end
